-- ==== Sys2Proof/Word.lean ====
section
/-! DEFINITION. The words of the frame format (spec/11_frame_ports.md R177): the 32-bit frame and its fields. -/

namespace Sys2Proof

/-- A 16-bit data value of a frame, and the form in which a settings item is stored (R177, R183). -/
abbrev Word := BitVec 16

/-- The index field of a frame (R177). -/
abbrev Index := BitVec 8

/-- A 4-bit field of a frame: command code, object class code or result code (R177). -/
abbrev Code := BitVec 4

/-- A whole 32-bit frame (R177). -/
abbrev Frame := BitVec 32

end Sys2Proof
end

