-- ==== Sys2Proof/Config.lean ====
section
/-! DEFINITION. What the spec leaves open: the free values. Each is an opaque constant read at the model's own counter
`State.freeCount`, so that nothing can be proved of the value itself. -/

namespace Sys2Proof.Config

/-- DESIGN CHOICE (log 9). Response data the spec does not state: a taken MONITOR (R32), a taken clear of an overflow
flag (R31). -/
opaque freeData : Nat → Word

/-- DESIGN CHOICE (log 10). Which fields of the body a journal write cut in step 2 had replaced (R43, R57): bit `i` for the
`i`-th field of Table 3-1. -/
opaque freeBodyPart : Nat → BitVec 17

/-- DESIGN CHOICE (log 11). The outage class that the plan shows when there is no complete entry, so that no profile is
read, and the quality is KNOWN (R113, R117, R119): SHORT, MEDIUM or LONG, as far as the ranges of the profile leave it
open. -/
opaque freeClass : Nat → Fin 3

end Sys2Proof.Config
end

