-- ==== Sys2Proof/Syntax.lean ====
section
/-! DEFINITION. The commands the part takes from outside: one constructor per row of spec/opcode_table.json,
in the table's order. A frame command carries the port it is sent on and every field of its 32-bit frame that the row leaves
open (R177); an event carries what the pins bring with it. -/

namespace Sys2Proof

/-- The two frame ports, one for each controller (R171). -/
inductive Port where
  | panel
  | drive
deriving DecidableEq, Repr

/-- The four combinations of the drum's Hall inputs (Table 4-1). -/
inductive Quad where
  | q0
  | q1
  | q2
  | q3
deriving DecidableEq, Repr

/-- The step of a journal write during which it is cut (Table 3-3). -/
inductive CutStep where
  | header
  | body
  | commit
deriving DecidableEq, Repr

/-- The commands: one constructor per row of the opcode table. -/
inductive Instr where
  /-- NOP frame (R179): class, index and data are disregarded, the index is echoed. -/
  | nop (p : Port) (cls : Code) (idx : Index) (data : Word)
  /-- READ of class TALLY, index tally × 4 (R28, R29); the data is disregarded. -/
  | readTallyLow (p : Port) (tally : Fin 6) (data : Word)
  /-- READ of class TALLY, index tally × 4 + 1 (R28, R29); the data is disregarded. -/
  | readTallyHigh (p : Port) (tally : Fin 6) (data : Word)
  /-- WRITE of LIVE index 0 (R6). -/
  | writeProgramme (p : Port) (data : Word)
  /-- WRITE of LIVE index 1 (R7). -/
  | writeOptions (p : Port) (data : Word)
  /-- WRITE of LIVE index 2 with any data but 3 (R8). -/
  | writeRunRequest (p : Port) (data : Word)
  /-- WRITE of LIVE index 2 with data 3 (R9). -/
  | cancel (p : Port)
  /-- WRITE of LIVE index 3 (R10). -/
  | writePhase (p : Port) (data : Word)
  /-- WRITE of LIVE index 4 (R13). -/
  | writeDeficit (p : Port) (data : Word)
  /-- WRITE of class TALLY, index tally × 4 (low part) or tally × 4 + 1 (`high`), R30. -/
  | writeTallyValue (p : Port) (tally : Fin 6) (high : Bool) (data : Word)
  /-- WRITE of class TALLY, index tally × 4 + 2 (R31). -/
  | clearOverflowFlag (p : Port) (tally : Fin 6) (data : Word)
  /-- WRITE of class TALLY_CTL (R33). -/
  | writeTallyCtl (p : Port) (idx : Index) (data : Word)
  /-- WRITE of class PROFILE (R184). -/
  | writeProfile (p : Port) (idx : Index) (data : Word)
  /-- WRITE of class TEMP_TABLE (R184). -/
  | writeTempTable (p : Port) (idx : Index) (data : Word)
  /-- WRITE of class CONFIG (R184). -/
  | writeConfig (p : Port) (idx : Index) (data : Word)
  /-- WRITE of class ALERT_CTL (R169). -/
  | writeAlertLevel (p : Port) (idx : Index) (data : Word)
  /-- WRITE of an object or index that no port may write (R178 and the owning rules). -/
  | writeReadOnlyObject (p : Port) (cls : Code) (idx : Index) (data : Word)
  /-- A frame with command code 13 or 14, or 15 that is not all ones (R178). -/
  | undefinedCommand (p : Port) (code : Code) (cls : Code) (idx : Index) (data : Word)
  /-- Command code 3 (R46). -/
  | checkpoint (p : Port) (cls : Code) (idx : Index) (data : Word)
  /-- Command code 4 (R167). -/
  | takeAlert (p : Port) (cls : Code) (idx : Index) (data : Word)
  /-- Command code 5 (R168). -/
  | setMask (p : Port) (cls : Code) (idx : Index) (data : Word)
  /-- Command code 6 (R134, R135). -/
  | confirm (p : Port) (cls : Code) (idx : Index) (data : Word)
  /-- Command code 7 (R134, R136). -/
  | accept (p : Port) (cls : Code) (idx : Index) (data : Word)
  /-- Command code 8 (R134, R137). -/
  | decline (p : Port) (cls : Code) (idx : Index) (data : Word)
  /-- Command code 9 (R25). -/
  | freeze (p : Port) (cls : Code) (idx : Index) (data : Word)
  /-- Command code 10 (R25). -/
  | release (p : Port) (cls : Code) (idx : Index) (data : Word)
  /-- Command code 11 (R32). -/
  | monitor (p : Port) (cls : Code) (idx : Index) (data : Word)
  /-- Command code 12 (R153). -/
  | tumbleAck (p : Port) (cls : Code) (idx : Index) (data : Word)
  /-- An all-ones frame completed on a port (R175 while SYNCED). -/
  | allOnesFrameSynced (p : Port)
  /-- Any 32-bit frame completed on a port (R174 while DESYNCED). -/
  | frameWhileDesynced (p : Port) (w : Frame)
  /-- The gap timer passes 200 µs with `bits` bits of the frame received (R173). -/
  | frameGap (p : Port) (bits : Nat)
  /-- A ZCS pulse, `after` µs after the moment at which the loss timer stands (R74). -/
  | zeroCrossPulse (after : Nat)
  /-- The loss timer reaches the loss timeout (R78). -/
  | lossDeclaration
  /-- The loss timer reaches the loss timeout with a qualification pending (R82). -/
  | qualificationWithdrawn
  /-- The last-gasp window expires (R80, R81). -/
  | lastGaspWindowExpiry
  /-- RSTN goes low (R86); `cut` is the step at which a journal write in progress is cut (R43). -/
  | rstnAssertion (cut : CutStep)
  /-- RSTN is released (R86); the start measures VBK as `vbkMv` millivolts (R70). -/
  | rstnRelease (vbkMv : Nat)
  /-- VDD and VBK come up together (R87); the start measures VBK (R70). -/
  | coldStart (vbkMv : Nat)
  /-- VBK is applied with VDD absent (R106). -/
  | backupOnlyStart
  /-- VDD rises with the backup domain held up (Introduction 3.2); the start measures VBK (R70). -/
  | warmReturn (vbkMv : Nat)
  /-- VDD collapses (R85); `cut` as for `rstnAssertion`. -/
  | vddCollapse (cut : CutStep)
  /-- VBK falls too far with VDD absent (R99, R100). -/
  | vbkLoss
  /-- The door input has held one level for 20 ms (R59). -/
  | doorFirstAdoption (isOpen : Bool)
  /-- The door input has held one level for 20 ms (R59, R60). -/
  | doorChange (isOpen : Bool)
  /-- The Hall combination `q` has held for 2 ms (R61). -/
  | quadFirstAdoption (q : Quad)
  /-- The Hall combination `q` has held for 2 ms (R61, R62). -/
  | quadStep (q : Quad)
  /-- The Hall combination `q` has held for 2 ms (R61, R64). -/
  | quadIllegalJump (q : Quad)
  /-- A main-domain second passes with no step in it (R63). -/
  | drumBurstClose
  /-- A 10 ms sample of HTS (R65, R66). -/
  | htsSample (high : Bool)
  /-- The mismatch timer passes 2 s (R66). -/
  | mismatchTimerExpiry
  /-- A main-domain second ends: VBK measures `vbkMv`; `tempFirst` says which of the second's occurrences is
  delivered first where both are (R20, R65, R69, R70). -/
  | mainSecond (vbkMv : Nat) (tempFirst : Bool)
  /-- A thermistor conversion completes with `code` (R67). -/
  | thermistorConversion (code : BitVec 10)
  /-- The phase clock counts a second (R14). -/
  | phaseClockSecond
  /-- The time remaining of RESTING runs out (R152). -/
  | restExpiry
  /-- The 3000 ms of DUE run out (R152). -/
  | tumbleAckTimeout
  /-- The time remaining of TUMBLING runs out (R154). -/
  | tumbleComplete
  /-- The time remaining of RECOVERY runs out (R155). -/
  | recoveryEnd
  /-- Step 3 of the journal write in progress ends (R42). -/
  | entryCommit
  /-- The settings write in progress ends; the retained array reads back `readBack` (R50, R185). -/
  | settingsWriteComplete (readBack : Word)
  /-- The scan in progress ends (R54). -/
  | scanComplete
  /-- The sequencer's sample, with the door, the Hall combination, the THM code and VBK as read (R92). -/
  | sample (doorOpen : Bool) (q : Quad) (code : BitVec 10) (vbkMv : Nat)
  /-- The flush in progress ends (R51, R99). -/
  | flushComplete
  /-- The outage timer counts a second (R90). -/
  | outageTimerSecond
deriving DecidableEq, Repr

end Sys2Proof
end

