-- ==== Sys2Proof/Machine/Types.lean ====
section
/-! DEFINITION. The records of the part's blocks, as plain data. Each field's docstring names the rule that gives it. -/

namespace Sys2Proof.Machine

/-! ### Frame ports (spec/11_frame_ports.md) -/

/-- Result codes (Table 11-5). -/
inductive Result where
  | ok
  | clamped
  | notOwner
  | badObject
  | badIndex
  | badValue
  | wrongState
  | busy
  | locked
deriving DecidableEq, Repr

/-- What the acknowledge pulse of the next frame says (Table 11-1). -/
inductive Ack where
  | taken
  | queued
  | refused
  | resync
deriving DecidableEq, Repr

/-- An answer as the response register holds it (R171, R176, R177). -/
structure Answer where
  echo : Code
  result : Result
  idx : Index
  data : Word
  ack : Ack
deriving DecidableEq, Repr

/-- One port's state (R171). -/
structure PortState where
  synced : Bool
  bitCounter : Nat
  /-- Microseconds since the last rising clock edge, while the bit counter is 1 to 31. -/
  gapTimer : Nat
  allOnes : Bool
  ignored : Nat
  resp : Option Answer
  /-- The read latch of R29: tally number and high byte. -/
  latch : Option (Fin 6 × Nat)
  /-- The monitor selector of R32. -/
  monitor : Option (Fin 6)
deriving DecidableEq, Repr

/-! ### Alert controller (spec/10_alert_controller.md) -/

/-- The thirteen alert sources (Table 10-1). -/
inductive Alert where
  | mainsLoss
  | heaterMismatch
  | sensorFault
  | verdictReady
  | planChanged
  | tallyTarget
  | doorChanged
  | tumbleDue
  | anticreaseEnd
  | checkpointDone
  | tornFound
  | settingsWritten
  | linkFault
deriving DecidableEq, Repr

/-- One port's alert state (R163). Sets and levels are indexed by source number. -/
structure Alerts where
  pending : Vector Bool 13
  /-- Level of each source; the entry of MAINS_LOSS, which has none, is not read. -/
  levels : Vector Nat 13
  mask : Nat
  /-- SENSOR_FAULT taken mark (R166). -/
  taken : Bool
deriving DecidableEq, Repr

/-! ### Live Progress Record (spec/01_the_live_progress_record.md) -/

/-- The phases of a programme (Table 1-1). -/
inductive Phase where
  | idle
  | heat
  | cool
  | anticrease
  | done
deriving DecidableEq, Repr

/-- The run requests a record holds; CANCEL is never held (R9). -/
inductive RunReq where
  | stopped
  | run
  | paused
deriving DecidableEq, Repr

/-- The options set (Table 1-1). -/
structure Options where
  extended : Bool
  noAnticrease : Bool
  lowHeat : Bool
deriving DecidableEq, Repr

/-- The record's fields 0 to 6 (R1); field 7, the door, is sensing's debounced door (R15). -/
structure Lpr where
  programme : Fin 16
  options : Options
  runReq : RunReq
  phase : Phase
  deficit : Nat
  phaseClock : Nat
  /-- The phase clock's part-second in milliseconds (R14). -/
  partMs : Nat
  temp : Int
  /-- The stale mark (R15). -/
  stale : Bool
deriving DecidableEq, Repr

/-! ### Progress tallies (spec/02_progress_tallies.md) -/

/-- The freeze set (R25). -/
structure Freeze where
  notify : Bool
  panel : Bool
  drive : Bool
  loss : Bool
  ret : Bool
deriving DecidableEq, Repr

/-- Tally sources (Table 2-2). -/
inductive Source where
  | off
  | heaterSeconds
  | drumTurns
  | reversals
  | tempSeconds
  | doorOpenings
  | mainsDips
  | tumblePulses
  | runSeconds
deriving DecidableEq, Repr

/-- A tally control as the words that hold its six fields (Table 2-1), at the field numbers of R33. A word read back from a
mismatched write may lie outside its field's range (R186), so the words are kept as they stand. -/
abbrev Control := Vector Word 6

/-- One tally (R18). -/
structure Tally where
  value : Nat
  overflow : Bool
  edgeMem : Bool
  ctl : Control
deriving DecidableEq, Repr

/-! ### Settings store (spec/12_settings_store.md) -/

/-- One stored item of the settings store (R183, R33). -/
inductive Item where
  | profile (prog : Fin 16) (field : Fin 18)
  | temp (i : Fin 18)
  | config (i : Fin 8)
  | tallyCtl (tally : Fin 6) (field : Fin 6)
deriving DecidableEq, Repr

/-- The settings in the retained array (R183). The temperature table's word 2n is point n's code and 2n + 1 its temperature. -/
structure Settings where
  profiles : Vector (Vector Word 18) 16
  temp : Vector Word 18
  config : Vector Word 8
  controls : Vector Control 6
deriving DecidableEq, Repr

/-! ### Journal and store engine (spec/03_checkpoint_journal_and_store_engine.md) -/

/-- Drum directions. -/
inductive Dir where
  | cw
  | ccw
deriving DecidableEq, Repr

/-- Journal origins (Table 3-1). -/
inductive Origin where
  | panel
  | drive
  | tally
  | phase
  | lastgasp
  | resume
deriving DecidableEq, Repr

/-- The fields of Table 3-1 other than origin (R45). -/
structure Snapshot where
  programme : Fin 16
  options : Options
  runReq : RunReq
  phase : Phase
  deficit : Nat
  phaseClock : Nat
  temp : Int
  tallies : Vector Nat 6
  nextDir : Dir
  pulsesDone : Nat
  missed : Nat
deriving DecidableEq, Repr

/-- One slot of the journal ring (R37). -/
structure Slot where
  /-- The header holds the factory blank pattern. -/
  blank : Bool
  openMark : Bool
  seqNo : Word
  check : Word
  origin : Origin
  body : Snapshot
  /-- The sequence number the commit mark carries; none is the factory pattern. -/
  commit : Option Word
deriving DecidableEq, Repr

/-- Slot states (Table 3-2). -/
inductive SlotState where
  | blank
  | corrupt
  | opened
  | complete
deriving DecidableEq, Repr

/-- A request waiting in the store request queue (R44, R45). -/
inductive Request where
  | journal (o : Origin) (snap : Snapshot)
  | settings (p : Port) (item : Item) (value : Word)
deriving DecidableEq, Repr

/-- The store engine's state with what it is working on (R39). -/
inductive Work where
  | idle
  | scanning
  | entry (slot : Fin 16) (seqNo : Word) (o : Origin) (snap : Snapshot)
  | settings (p : Port) (item : Item) (value : Word)
  | flush
deriving DecidableEq, Repr

/-- The store engine (R39 to R44, R58). -/
structure Engine where
  work : Work
  /-- The store request queue, oldest first (R44). -/
  queue : List Request
  /-- A scan is due and waits for the work in progress (R52). -/
  scanDue : Bool
  curSeq : Option Word
  writePos : Option (Fin 16)
  /-- The torn-skipped count of the latest scan (R54). -/
  torn : Nat
deriving DecidableEq, Repr

/-! ### Sensing (spec/04_sensing_inputs.md) -/

/-- The debounced door. -/
inductive Door where
  | closed
  | opened
deriving DecidableEq, Repr

/-- Mismatch episode states (R66). -/
inductive Episode where
  | none
  | running
  | raised
deriving DecidableEq, Repr

/-- Sensing's state (R59, R61, R63, R65 to R67, R69, R70); `none` is unknown, or not yet found. -/
structure Sensing where
  door : Option Door
  quad : Option Quad
  acc : Int
  prevDir : Option Dir
  quadFaults : Nat
  htsLatest : Bool
  htsHighs : Nat
  secondMs : Nat
  episode : Episode
  mismatchMs : Nat
  convCode : Option (BitVec 10)
  fault : Bool
  /-- The fault condition that holds entered while sensing was the outage logger (R71, log 16). -/
  faultAsLogger : Bool
  lastTemp : Option Int
  backupMv : Option Nat
  /-- The open drum burst's amount (R63). -/
  burst : Option Nat
deriving DecidableEq, Repr

/-- The sample references (R71). -/
structure Refs where
  door : Option Door
  quad : Option Quad
  temp : Option Int
deriving DecidableEq, Repr

/-! ### Mains supervisor (spec/05_mains_supervision_and_the_loss_sequence.md) -/

/-- Supply modes (R77). -/
inductive Mode where
  | waking
  | run
  | fading
  | held
deriving DecidableEq, Repr

/-- The last gasp as STATUS shows it (Table 11-7 index 19). -/
inductive LastGasp where
  | none
  | due
  | requested
deriving DecidableEq, Repr

/-- The supervisor's state (R74, R77, R80, R82). -/
structure Mains where
  mode : Mode
  runCount : Nat
  /-- A pulse has been accepted since the main-domain start. -/
  accepted : Bool
  /-- The loss timer and the time since the last accepted pulse, in microseconds: each accepted pulse restarts both. -/
  lossTimer : Nat
  lastGasp : LastGasp
  /-- Milliseconds left of the last-gasp window, while it runs. -/
  window : Option Nat
  qualPending : Bool
deriving DecidableEq, Repr

/-! ### Outage watch (spec/06_outage_watch.md) -/

/-- Retention sequencer states (Table 6-1). -/
inductive SeqState where
  | dormant
  | watch
  | flushing
  | spent
deriving DecidableEq, Repr

/-- Summary quality (Table 6-6). -/
inductive Quality where
  | known
  | lowerBound
  | unknown
deriving DecidableEq, Repr

/-- How the chain was opened (R79). -/
inductive OpenedBy where
  | loss
  | reset
  | cold
deriving DecidableEq, Repr

/-- Outage log item kinds (Table 6-5). -/
inductive ItemKind where
  | doorOpen
  | doorClose
  | drumMove
  | motionUncertain
  | backupLow
  | sensorFault
  | mainsReturn
  | mainsLost
deriving DecidableEq, Repr

/-- An outage log item (Table 6-4). -/
structure LogItem where
  kind : ItemKind
  time : Nat
  amount : Option Nat
deriving DecidableEq, Repr

/-- The outage summary (Table 6-6); its duration is the outage timer (R90). -/
structure Summary where
  duration : Nat
  quality : Quality
  doorOpened : Bool
  doorOpenSec : Nat
  quarters : Nat
  net : Int
  uncertain : Bool
  lastTemp : Option Int
  backupLow : Bool
  itemsLost : Nat
  matchKey : Option Word
  flushed : Bool
deriving DecidableEq, Repr

/-- The outage chain with its timer, log and summary (R79, R90, R101, R103, R106). -/
structure Outage where
  chainOpen : Bool
  fresh : Bool
  openedBy : OpenedBy
  resetSeen : Bool
  /-- The match key is still to come from the first scan (R55). -/
  keyFromScan : Bool
  /-- The outage timer's part-second in milliseconds (R90). -/
  partMs : Nat
  log : List LogItem
  summary : Summary
deriving DecidableEq, Repr

/-- The retention sequencer (R89). -/
structure Sequencer where
  state : SeqState
  pace : Nat
  quiet : Nat
  /-- Milliseconds to the next sample (R92). -/
  toSample : Nat
  burst : Option Nat
  sampleFault : Bool
  doorRem : Nat
  returnSeen : Bool
  base : Nat
  low : Nat
  floor : Nat
  lastVbk : Option Nat
  /-- What a due or running flush writes (R99). -/
  flushCopy : Option Summary
  /-- The flush runs on the backup write path (R51). -/
  backupFlush : Bool
deriving DecidableEq, Repr

/-! ### Resume evaluation (spec/07_resume_evaluation.md) -/

/-- Verdicts (Table 7-1). -/
inductive Verdict where
  | none
  | auto
  | hold
  | ended
deriving DecidableEq, Repr

/-- Outage classes (Table 7-4). -/
inductive OutClass where
  | short
  | medium
  | long
  | unknown
deriving DecidableEq, Repr

/-- The plan record (Table 7-7). -/
structure Plan where
  verdict : Verdict
  /-- The reason set as the sum of Table 7-6. -/
  reasons : BitVec 12
  target : Phase
  cls : OutClass
  tOut : Nat
  dPrime : Nat
  rawHeat : Nat
  credit : Nat
  heatSec : Nat
  coolSec : Nat
  elapsed : Nat
  windowRem : Nat
  offset : Nat
  recovery : Nat
  nextDir : Dir
  programme : Fin 16
  options : Options
  sourceSeq : Option Word
  evalCount : Nat
  tRet : Option Int
deriving DecidableEq, Repr

/-- A complete journal entry as the scan hands it on (R54). -/
structure Entry where
  seqNo : Word
  body : Snapshot
deriving DecidableEq, Repr

/-- The evaluator's kept inputs (R111, R130). -/
structure Kept where
  entry : Option Entry
  newest : Option Word
  torn : Nat
deriving DecidableEq, Repr

/-! ### Hand-over (spec/08_plan_hand_over_and_heat_permit.md) -/

/-- Hand-over states (Table 8-1). -/
inductive HoState where
  | closed
  | evaluating
  | offeredAuto
  | offeredHold
  | confirmed
deriving DecidableEq, Repr

/-- The hand-over's state and marks (R131, R145). -/
structure HandOver where
  state : HoState
  late : Bool
  overLimit : Bool
deriving DecidableEq, Repr

/-! ### Anti-crease scheduler (spec/09_anti_crease_scheduler.md) -/

/-- Scheduler states (Table 9-1). -/
inductive SchedState where
  | idle
  | resting
  | due
  | tumbling
  | recovery
  | ended
deriving DecidableEq, Repr

/-- End reasons (R147). -/
inductive EndReason where
  | none
  | window
  | door
  | cancel
  | noDrive
  | phase
deriving DecidableEq, Repr

/-- The scheduler's state (R147). -/
structure Sched where
  state : SchedState
  /-- Time remaining in milliseconds. -/
  remaining : Nat
  nextDir : Dir
  pulseDir : Dir
  pulsesDone : Nat
  missed : Nat
  endReason : EndReason
  windowEnd : Nat
  period : Nat
  tumbleLen : Nat
deriving DecidableEq, Repr

end Sys2Proof.Machine
end

