-- ==== Sys2Proof/Machine/Factory.lean ====
section
/-! DEFINITION. Factory settings and the ranges of settings items (spec/12_settings_store.md R183, R187, Tables 2-6, 4-3, 7-3,
12-1), and the values the blocks take at a start of their domain. -/

namespace Sys2Proof.Machine

/-- How a stored item is read at use (R186). -/
inductive Range where
  /-- An enumerated item: values 0 to `max`. -/
  | enum (max : Nat)
  /-- A numeric item. -/
  | num (lo hi : Nat)
  /-- A signed numeric item: −20 to 150. -/
  | temp
deriving DecidableEq, Repr

/-- Ranges of the profile fields (Table 7-3). -/
def profileRanges : Vector Range 18 :=
  #v[.enum 1, .num 0 600, .num 0 720, .num 0 50, .num 0 50, .num 1 60, .num 0 30, .num 0 40, .num 60 7200, .num 0 1000,
     .num 20 60, .num 0 1800, .num 0 360, .num 30 600, .num 2 60, .num 0 720, .num 0 300, .num 0 255]

/-- Factory profile (Table 7-3). -/
def factoryProfile : Vector Word 18 :=
  #v[1, 60, 120, 8, 20, 9, 6, 25, 5400, 600, 40, 600, 90, 120, 10, 30, 60, 8]

/-- Ranges of the configuration items (Table 12-1). -/
def configRanges : Vector Range 8 :=
  #v[.enum 1, .enum 6, .num 12 60, .num 5 40, .num 2 32, .num 1800 3300, .num 1700 3200, .num 60 120]

/-- Factory configuration (Table 12-1). -/
def factoryConfig : Vector Word 8 := #v[1, 0, 25, 20, 8, 2600, 2200, 90]

/-- Factory temperature table (Table 4-3): code, temperature, code, temperature, … -/
def factoryTemp : Vector Word 18 :=
  #v[16, 150, 140, 110, 260, 85, 380, 65, 500, 50, 620, 38, 740, 27, 870, 14, 1007, BitVec.ofInt 16 (-20)]

/-- Ranges of the tally control fields (Table 2-1, R33). -/
def controlRanges : Vector Range 6 := #v[.enum 8, .num 0 255, .enum 1, .enum 1, .enum 1, .enum 1]

/-- Factory stored controls (Table 2-6). -/
def factoryControls : Vector Control 6 :=
  #v[#v[1, 0, 0, 0, 0, 1], #v[2, 0, 0, 0, 0, 1], #v[4, 0, 0, 0, 0, 1], #v[5, 0, 0, 0, 0, 1], #v[6, 0, 0, 0, 0, 1],
     #v[7, 0, 0, 0, 0, 1]]

/-- The settings a part leaves the factory with (R187). -/
def factorySettings : Settings where
  profiles := Vector.replicate 16 factoryProfile
  temp := factoryTemp
  config := factoryConfig
  controls := factoryControls

/-- The range of an item (Tables 2-1, 7-3, 12-1; R183). -/
def itemRange : Item → Range
  | .profile _ f => profileRanges[f]
  | .temp i => if i.val % 2 == 0 then .num 0 1023 else .temp
  | .config i => configRanges[i]
  | .tallyCtl _ f => controlRanges[f]

/-- The factory value of an item (R187). -/
def itemFactory : Item → Word
  | .profile _ f => factoryProfile[f]
  | .temp i => factoryTemp[i]
  | .config i => factoryConfig[i]
  | .tallyCtl t f => factoryControls[t][f]

/-! ### Values at a start of the main domain -/

/-- A port at a main-domain start (R171, R182). -/
def PortState.start : PortState where
  synced := false
  bitCounter := 0
  gapTimer := 0
  allOnes := false
  ignored := 0
  resp := none
  latch := none
  monitor := none

/-- Default levels (Table 10-1). -/
def defaultLevels : Vector Nat 13 := #v[0, 0, 1, 2, 2, 3, 3, 1, 4, 5, 4, 5, 6]

/-- A port's alert state at a main-domain start (R163). -/
def Alerts.start : Alerts where
  pending := Vector.replicate 13 false
  levels := defaultLevels
  mask := 7
  taken := false

/-- The empty options set. -/
def Options.empty : Options := ⟨false, false, false⟩

/-- What the unbuilt record holds at a main-domain start (R16, Table 1-6). The values of an unbuilt record's fields are not
the spec's: DESIGN CHOICE, those of a build without an entry (Table 1-5), log 8. -/
def Lpr.start : Lpr where
  programme := 0
  options := Options.empty
  runReq := .stopped
  phase := .idle
  deficit := 0
  phaseClock := 0
  partMs := 0
  temp := 0
  stale := true

/-- The freeze set at a main-domain start (Table 2-4). -/
def Freeze.start : Freeze := ⟨false, false, false, false, true⟩

/-- A tally at a main-domain start with its stored control (R18, Table 2-5); the value of an unbuilt tally is a
DESIGN CHOICE, log 8. -/
def Tally.start (stored : Control) : Tally := ⟨0, false, false, stored⟩

/-- The tallies at a main-domain start (R18). -/
def talliesStart (st : Settings) : Vector Tally 6 := Vector.ofFn fun i => Tally.start st.controls[i]

/-- The store engine at a main-domain start (R58). -/
def Engine.start : Engine := ⟨.idle, [], false, none, none, 0⟩

/-- Sensing at a main-domain start (Table 4-7), before its backup-voltage measurement. -/
def Sensing.start : Sensing where
  door := none
  quad := none
  acc := 0
  prevDir := none
  quadFaults := 0
  htsLatest := false
  htsHighs := 0
  secondMs := 0
  episode := .none
  mismatchMs := 0
  convCode := none
  fault := false
  faultAsLogger := false
  lastTemp := none
  backupMv := none
  burst := none

/-- The supervisor at a main-domain start (R74, R77, Table 5-4). -/
def Mains.start : Mains := ⟨.waking, 0, false, 0, .none, none, false⟩

/-- The hand-over at a main-domain start (R131, R145). -/
def HandOver.start : HandOver := ⟨.closed, false, false⟩

/-- The scheduler at a main-domain start (Table 9-3). -/
def Sched.start : Sched := ⟨.idle, 0, .cw, .cw, 0, 0, .none, 0, 0, 0⟩

/-! ### Values at a start of the backup domain from nothing -/

/-- The sequencer after a cold start or a backup-only start (R89). -/
def Sequencer.start : Sequencer where
  state := .dormant
  pace := 0
  quiet := 0
  toSample := 0
  burst := none
  sampleFault := false
  doorRem := 0
  returnSeen := false
  base := 0
  low := 0
  floor := 0
  lastVbk := none
  flushCopy := none
  backupFlush := false

/-- The sample references after a cold start or a backup-only start (R71). -/
def Refs.start : Refs := ⟨none, none, none⟩

/-- A summary at the opening values of Table 6-6 with the given quality. -/
def Summary.opening (q : Quality) : Summary where
  duration := 0
  quality := q
  doorOpened := false
  doorOpenSec := 0
  quarters := 0
  net := 0
  uncertain := false
  lastTemp := none
  backupLow := false
  itemsLost := 0
  matchKey := none
  flushed := false

/-- The outage record after a backup-only start (Table 6-8). Opened-by and reset-seen have no value there until a chain opens: COLD
and no (DESIGN CHOICE, log 7). -/
def Outage.start : Outage where
  chainOpen := false
  fresh := true
  openedBy := .cold
  resetSeen := false
  keyFromScan := false
  partMs := 0
  log := []
  summary := Summary.opening .unknown

/-! ### The retained array as it leaves the factory -/

/-- The body under a factory-blank header; it cannot be read while the slot is BLANK. DESIGN CHOICE, log 7. -/
def Snapshot.blank : Snapshot where
  programme := 0
  options := Options.empty
  runReq := .stopped
  phase := .idle
  deficit := 0
  phaseClock := 0
  temp := 0
  tallies := Vector.replicate 6 0
  nextDir := .cw
  pulsesDone := 0
  missed := 0

/-- A BLANK slot (Table 3-2, R58). -/
def Slot.factory : Slot where
  blank := true
  openMark := false
  seqNo := 0
  check := 0
  origin := .panel
  body := Snapshot.blank
  commit := none

/-- The factory flushed copy (R104). -/
def Summary.factory : Summary := Summary.opening .known

end Sys2Proof.Machine
end

