-- ==== Sys2Proof/Machine/State.lean ====
section
/-! DEFINITION. The state of the part: every block's record (INVENTORY.md, State), plain data; the reasons a step can stop; the
state after reset. -/

namespace Sys2Proof.Machine

/-- Every fault a step could stop with. There is none: no row of the table and no rule of the spec stops the part (log 28). -/
inductive Fault where
deriving DecidableEq, Repr

/-- The refusals of a step. -/
inductive Refusal where
  /-- Raised by an arm of `exec` that has no meaning yet, with the row's mnemonic; safe. No arm raises it (log 28). -/
  | notModelled (mnemonic : String)
deriving DecidableEq, Repr

/-- The state of the DC-410. -/
structure State where
  /-- The commands that wait, oldest first: the model's own (log 1). -/
  pending : List Instr
  /-- The counter the free values are read at: the model's own (log 9). -/
  freeCount : Nat
  /-- VDD is present (Introduction 3.2). -/
  vdd : Bool
  /-- The backup domain is held up (Introduction 3.2). -/
  vbk : Bool
  /-- RSTN is held low (R86). -/
  rstn : Bool
  /-- The Panel Port (R171). -/
  panelPort : PortState
  /-- The Drive Port (R171). -/
  drivePort : PortState
  /-- The Panel Port's alerts (R163). -/
  panelAlerts : Alerts
  /-- The Drive Port's alerts (R163). -/
  driveAlerts : Alerts
  /-- The Live Progress Record (R1). -/
  lpr : Lpr
  /-- The record and the tally values are built (R16, R36). -/
  built : Bool
  /-- The freeze set (R25). -/
  freeze : Freeze
  /-- The six tallies (R18). -/
  tallies : Vector Tally 6
  /-- The preloaded tally (R18). -/
  preloaded : Option (Fin 6)
  /-- The store engine (R39). -/
  engine : Engine
  /-- The store fault (R185). -/
  storeFault : Bool
  /-- Sensing (R59 to R70). -/
  sensing : Sensing
  /-- The mains supervisor (R74 to R82). -/
  mains : Mains
  /-- The plan record, or empty (R127, R130). -/
  plan : Option Plan
  /-- The evaluator's kept inputs (R130). -/
  kept : Option Kept
  /-- The hand-over (R131, R145). -/
  handover : HandOver
  /-- The anti-crease scheduler (R147). -/
  sched : Sched
  /-- The retention sequencer (R89). -/
  seq : Sequencer
  /-- The sample references (R71). -/
  refs : Refs
  /-- The outage chain, its log and its summary (R79, R90, R101, R103, R106). -/
  outage : Outage
  /-- The journal (R37). -/
  journal : Vector Slot 16
  /-- The settings (R183). -/
  settings : Settings
  /-- The flushed copy of the outage summary (R104). -/
  flushedCopy : Summary
deriving DecidableEq, Repr

/-- The part right after its first start: a cold start of a part as it leaves the factory (R58, R87, R110, R187), whose
start measured VBK as 3000 mV (DESIGN CHOICE, log 6). -/
def State.reset : State where
  pending := []
  freeCount := 0
  vdd := true
  vbk := true
  rstn := false
  panelPort := PortState.start
  drivePort := PortState.start
  panelAlerts := Alerts.start
  driveAlerts := Alerts.start
  lpr := Lpr.start
  built := false
  freeze := Freeze.start
  tallies := talliesStart factorySettings
  preloaded := none
  engine := Engine.start
  storeFault := false
  sensing := { Sensing.start with backupMv := some 3000 }
  mains := Mains.start
  plan := none
  kept := none
  handover := HandOver.start
  sched := Sched.start
  seq := Sequencer.start
  refs := Refs.start
  outage := { Outage.start with chainOpen := true, keyFromScan := true }
  journal := Vector.replicate 16 Slot.factory
  settings := factorySettings
  flushedCopy := Summary.factory

/-- What a step answers. -/
abbrev Out : Type := Host.Outcome State Fault Refusal

end Sys2Proof.Machine
end

