-- ==== Sys2Proof/Machine/Operands.lean ====
section
/-! DEFINITION. Operand forms: the fields of a frame, the codes by which values travel in frames, and settings items as they
are stored, read and used. -/

namespace Sys2Proof.Machine

/-! ### The fields of a frame (R177, Table 11-2) -/

/-- Bits 0–3: the command. -/
def frameCmd (w : Frame) : Code := w.extractLsb' 0 4

/-- Bits 4–7: the object class of a command. -/
def frameClass (w : Frame) : Code := w.extractLsb' 4 4

/-- Bits 8–15: the index. -/
def frameIndex (w : Frame) : Index := w.extractLsb' 8 8

/-- Bits 16–31: the data. -/
def frameData (w : Frame) : Word := w.extractLsb' 16 16

/-- The frame with the given fields (Table 11-2). -/
def frameOf (cmd cls : Code) (idx : Index) (data : Word) : Frame := data ++ idx ++ cls ++ cmd

/-- The all-ones frame (R174). -/
def allOnesFrame : Frame := BitVec.allOnes 32

/-- The index of a tally's part (Table 2-3). -/
def tallyIndex (t : Fin 6) (part : Nat) : Index := BitVec.ofNat 8 (t.val * 4 + part)

/-! ### Data values -/

/-- An unsigned value as data. -/
def wordOf (n : Nat) : Word := BitVec.ofNat 16 n

/-- A signed value as data: two's complement (R177). -/
def wordOfInt (z : Int) : Word := BitVec.ofInt 16 z

/-- 0 no, 1 yes. -/
def wordOfBool (b : Bool) : Word := if b then 1 else 0

/-- Data codes of the phases (Table 1-2). -/
def Phase.code : Phase → Nat
  | .idle => 0
  | .heat => 1
  | .cool => 2
  | .anticrease => 3
  | .done => 4

/-- The phase a data value names (Table 1-2). -/
def Phase.ofCode (n : Nat) : Option Phase :=
  match n with
  | 0 => some .idle
  | 1 => some .heat
  | 2 => some .cool
  | 3 => some .anticrease
  | 4 => some .done
  | _ => none

/-- Data codes of the run requests (Table 1-2). -/
def RunReq.code : RunReq → Nat
  | .stopped => 0
  | .run => 1
  | .paused => 2

/-- The run request a data value names; CANCEL, 3, is none of the held values (Table 1-2). -/
def RunReq.ofCode (n : Nat) : Option RunReq :=
  match n with
  | 0 => some .stopped
  | 1 => some .run
  | 2 => some .paused
  | _ => none

/-- The options set as a sum (Table 1-2). -/
def Options.code (o : Options) : Nat := o.extended.toNat + 2 * o.noAnticrease.toNat + 4 * o.lowHeat.toNat

/-- The options set a sum of 0 to 7 names (Table 1-2). -/
def Options.ofCode (n : Nat) : Options := ⟨n.testBit 0, n.testBit 1, n.testBit 2⟩

/-- 0 CW, 1 CCW. -/
def Dir.code : Dir → Nat
  | .cw => 0
  | .ccw => 1

/-- The other direction. -/
def Dir.opposite : Dir → Dir
  | .cw => .ccw
  | .ccw => .cw

/-- Table 3-4 field 2. -/
def Origin.code : Origin → Nat
  | .panel => 0
  | .drive => 1
  | .tally => 2
  | .phase => 3
  | .lastgasp => 4
  | .resume => 5

/-- Table 3-2. -/
def SlotState.code : SlotState → Nat
  | .blank => 0
  | .corrupt => 1
  | .opened => 2
  | .complete => 3

/-- Table 11-7 index 0. -/
def Mode.code : Mode → Nat
  | .waking => 0
  | .run => 1
  | .fading => 2
  | .held => 3

/-- Table 6-1. -/
def SeqState.code : SeqState → Nat
  | .dormant => 0
  | .watch => 1
  | .flushing => 2
  | .spent => 3

/-- Table 8-1. -/
def HoState.code : HoState → Nat
  | .closed => 0
  | .evaluating => 1
  | .offeredAuto => 2
  | .offeredHold => 3
  | .confirmed => 4

/-- Table 6-7 index 1. -/
def Quality.code : Quality → Nat
  | .known => 0
  | .lowerBound => 1
  | .unknown => 2

/-- Table 6-7 index 13. -/
def OpenedBy.code : OpenedBy → Nat
  | .loss => 0
  | .reset => 1
  | .cold => 2

/-- Table 7-4. -/
def OutClass.code : OutClass → Nat
  | .short => 0
  | .medium => 1
  | .long => 2
  | .unknown => 3

/-- Table 7-1. -/
def Verdict.code : Verdict → Nat
  | .none => 0
  | .auto => 1
  | .hold => 2
  | .ended => 3

/-- Table 6-5. -/
def ItemKind.code : ItemKind → Nat
  | .doorOpen => 0
  | .doorClose => 1
  | .drumMove => 2
  | .motionUncertain => 3
  | .backupLow => 4
  | .sensorFault => 5
  | .mainsReturn => 6
  | .mainsLost => 7

/-- Table 9-1. -/
def SchedState.code : SchedState → Nat
  | .idle => 0
  | .resting => 1
  | .due => 2
  | .tumbling => 3
  | .recovery => 4
  | .ended => 5

/-- Table 9-2 index 1. -/
def EndReason.code : EndReason → Nat
  | .none => 0
  | .window => 1
  | .door => 2
  | .cancel => 3
  | .noDrive => 4
  | .phase => 5

/-- Table 4-6 index 6. -/
def Episode.code : Episode → Nat
  | .none => 0
  | .running => 1
  | .raised => 2

/-- Table 11-7 index 19. -/
def LastGasp.code : LastGasp → Nat
  | .none => 0
  | .due => 1
  | .requested => 2

/-- Table 4-6 index 0. -/
def Door.code : Door → Nat
  | .closed => 0
  | .opened => 1

/-- The door a level of the DOOR input shows: high when open (R59). -/
def Door.ofLevel (isOpen : Bool) : Door := if isOpen then .opened else .closed

/-- Q0 to Q3 (Table 4-6 index 1). -/
def quadCode : Quad → Nat
  | .q0 => 0
  | .q1 => 1
  | .q2 => 2
  | .q3 => 3

/-- What moving from one quadrature state to another is (Table 4-1): nothing, a step in a direction, or a jump to the opposite. -/
inductive QuadMove where
  | same
  | step (d : Dir)
  | opposite
deriving DecidableEq, Repr

/-- The move from `a` to `b`: the order Q0, Q1, Q2, Q3, Q0 is CW (Table 4-1). -/
def quadMove (a b : Quad) : QuadMove :=
  match (quadCode b + 4 - quadCode a) % 4 with
  | 0 => .same
  | 1 => .step .cw
  | 2 => .opposite
  | _ => .step .ccw

/-- Alert source numbers (Table 10-1). -/
def Alert.num : Alert → Fin 13
  | .mainsLoss => 0
  | .heaterMismatch => 1
  | .sensorFault => 2
  | .verdictReady => 3
  | .planChanged => 4
  | .tallyTarget => 5
  | .doorChanged => 6
  | .tumbleDue => 7
  | .anticreaseEnd => 8
  | .checkpointDone => 9
  | .tornFound => 10
  | .settingsWritten => 11
  | .linkFault => 12

/-- The tally source a data code names (Table 2-2). -/
def Source.ofCode (n : Nat) : Source :=
  match n with
  | 1 => .heaterSeconds
  | 2 => .drumTurns
  | 3 => .reversals
  | 4 => .tempSeconds
  | 5 => .doorOpenings
  | 6 => .mainsDips
  | 7 => .tumblePulses
  | 8 => .runSeconds
  | _ => .off

/-! ### Settings items -/

/-- A stored item (R183). -/
def Settings.get (st : Settings) : Item → Word
  | .profile p f => st.profiles[p][f]
  | .temp i => st.temp[i]
  | .config i => st.config[i]
  | .tallyCtl t f => st.controls[t][f]

/-- The settings with one stored item replaced (R50). -/
def Settings.put (st : Settings) (it : Item) (w : Word) : Settings :=
  match it with
  | .profile p f => { st with profiles := st.profiles.set p (st.profiles[p].set f w) }
  | .temp i => { st with temp := st.temp.set i w }
  | .config i => { st with config := st.config.set i w }
  | .tallyCtl t f => { st with controls := st.controls.set t (st.controls[t].set f w) }

/-- A stored word as it is used (R186): an enumerated item outside its values is its factory value, a numeric item outside its
range the nearer end. -/
def useWord (r : Range) (factory w : Word) : Int :=
  match r with
  | .enum m => if w.toNat ≤ m then w.toNat else factory.toNat
  | .num lo hi => max lo (min hi w.toNat)
  | .temp => max (-20) (min 150 w.toInt)

/-- An item's value at use (R186). -/
def Settings.use (st : Settings) (it : Item) : Int := useWord (itemRange it) (itemFactory it) (st.get it)

/-- An unsigned item's value at use (R186). -/
def Settings.useNat (st : Settings) (it : Item) : Nat := (st.use it).toNat

/-- A configuration item at use (Table 12-1). -/
def Settings.cfg (st : Settings) (i : Fin 8) : Nat := st.useNat (.config i)

/-- A field of a working control at use (R33, R186). -/
def controlUse (t : Fin 6) (f : Fin 6) (ctl : Control) : Nat :=
  (useWord (itemRange (.tallyCtl t f)) (itemFactory (.tallyCtl t f)) ctl[f]).toNat

/-- A profile as the evaluator and the scheduler use it (R116, R186, Table 7-3). -/
structure Prof where
  autoResume : Nat
  sShort : Nat
  lHeat : Nat
  rClosed : Nat
  rOpened : Nat
  secPerUnit : Nat
  creditRate : Nat
  tRef : Nat
  hCap : Nat
  dAbandon : Nat
  tCool : Nat
  coolMin : Nat
  window : Nat
  period : Nat
  tumble : Nat
  crease : Nat
  recovery : Nat
  disturb : Nat
deriving DecidableEq, Repr

/-- The profile of a programme at use (R116, R186). -/
def Settings.prof (st : Settings) (p : Fin 16) : Prof where
  autoResume := st.useNat (.profile p 0)
  sShort := st.useNat (.profile p 1)
  lHeat := st.useNat (.profile p 2)
  rClosed := st.useNat (.profile p 3)
  rOpened := st.useNat (.profile p 4)
  secPerUnit := st.useNat (.profile p 5)
  creditRate := st.useNat (.profile p 6)
  tRef := st.useNat (.profile p 7)
  hCap := st.useNat (.profile p 8)
  dAbandon := st.useNat (.profile p 9)
  tCool := st.useNat (.profile p 10)
  coolMin := st.useNat (.profile p 11)
  window := st.useNat (.profile p 12)
  period := st.useNat (.profile p 13)
  tumble := st.useNat (.profile p 14)
  crease := st.useNat (.profile p 15)
  recovery := st.useNat (.profile p 16)
  disturb := st.useNat (.profile p 17)

/-- U_eff, the tumble length in use (R116). -/
def Prof.uEff (p : Prof) : Nat := min p.tumble (p.period - 1)

/-- W_sec, the anti-crease window in seconds (R116, R149). -/
def Prof.wSec (p : Prof) (o : Options) : Nat := min 43200 (p.window * 60 * if o.extended then 2 else 1)

/-! ### The temperature table (R68, R186) -/

/-- Point `i` of a temperature table as used: code and temperature, each held to its range (R186). -/
def tablePoint (t : Vector Word 18) (i : Fin 9) : Nat × Int :=
  let c : Fin 18 := ⟨i.val * 2, by omega⟩
  let d : Fin 18 := ⟨i.val * 2 + 1, by omega⟩
  ((useWord (itemRange (.temp c)) (itemFactory (.temp c)) t[c]).toNat, useWord (itemRange (.temp d)) (itemFactory (.temp d)) t[d])

/-- The nine points of a table in order. -/
def tablePoints (t : Vector Word 18) : List (Nat × Int) := (List.finRange 9).map (tablePoint t)

/-- The codes rise strictly from point to point (R183). -/
def increasing : List Nat → Bool
  | a :: b :: l => decide (a < b) && increasing (b :: l)
  | _ => true

/-- The table can be used at a reading (R186). -/
def tableUsable (t : Vector Word 18) : Bool := increasing ((tablePoints t).map Prod.fst)

/-- Between two points: temperature i + (code − code i) × (rise) / (code i+1 − code i), rounded to the nearest whole degree, a
half upwards (R68 step 2). -/
def interpolate (c : Nat) (a b : Nat × Int) : Int :=
  let den : Int := (b.1 : Int) - a.1
  (2 * (a.2 * den + ((c : Int) - a.1) * (b.2 - a.2)) + den) / (2 * den)

/-- The temperature of a code by the points from the first on (R68 steps 1 and 2). -/
def lookup (c : Nat) : List (Nat × Int) → Int
  | [] => 0
  | [a] => a.2
  | a :: b :: l => if c ≤ a.1 then a.2 else if c < b.1 then interpolate c a b else lookup c (b :: l)

/-- The temperature a valid code reads, through the stored table or, where that cannot be used, the factory table (R68, R186). -/
def temperatureOf (t : Vector Word 18) (code : BitVec 10) : Int :=
  max (-20) (min 150 (lookup code.toNat (tablePoints (if tableUsable t then t else factoryTemp))))

/-- A code from 16 to 1007 is valid, any other faulted (R67, R95). -/
def codeValid (code : BitVec 10) : Bool := decide (16 ≤ code.toNat) && decide (code.toNat ≤ 1007)

/-- A backup voltage as measured: rounded down to a multiple of 10 mV, at most 6000 mV (R70, R96). -/
def measuredMv (mv : Nat) : Nat := min 6000 (mv / 10 * 10)

end Sys2Proof.Machine
end

