-- ==== Sys2Proof/Decode.lean ====
section
/-! DEFINITION. The words of the table and of the frames. No row of the table gives bits (log 30); a frame command's row does
spell one 32-bit frame of R177, which `Instr.frame` gives. -/

namespace Sys2Proof

/-- The command a table word spells: none, as no row of the table gives bits (log 30). -/
def decodeTableWord (_nbits _w : Nat) : Option Instr := none

open Sys2Proof.Machine in
/-- The port and the 32-bit frame that a frame command is (R177, Tables 11-2 to 11-4); none for a frame with no word of its
own and for the events. -/
def Instr.frame : Instr → Option (Port × Frame)
  | .nop p cls idx data => some (p, frameOf 0 cls idx data)
  | .readTallyLow p t data => some (p, frameOf 1 2 (tallyIndex t 0) data)
  | .readTallyHigh p t data => some (p, frameOf 1 2 (tallyIndex t 1) data)
  | .writeProgramme p data => some (p, frameOf 2 0 0 data)
  | .writeOptions p data => some (p, frameOf 2 0 1 data)
  | .writeRunRequest p data => some (p, frameOf 2 0 2 data)
  | .cancel p => some (p, frameOf 2 0 2 3)
  | .writePhase p data => some (p, frameOf 2 0 3 data)
  | .writeDeficit p data => some (p, frameOf 2 0 4 data)
  | .writeTallyValue p t high data => some (p, frameOf 2 2 (tallyIndex t high.toNat) data)
  | .clearOverflowFlag p t data => some (p, frameOf 2 2 (tallyIndex t 2) data)
  | .writeTallyCtl p idx data => some (p, frameOf 2 3 idx data)
  | .writeProfile p idx data => some (p, frameOf 2 9 idx data)
  | .writeTempTable p idx data => some (p, frameOf 2 10 idx data)
  | .writeConfig p idx data => some (p, frameOf 2 11 idx data)
  | .writeAlertLevel p idx data => some (p, frameOf 2 8 idx data)
  | .writeReadOnlyObject p cls idx data => some (p, frameOf 2 cls idx data)
  | .undefinedCommand p code cls idx data => some (p, frameOf code cls idx data)
  | .checkpoint p cls idx data => some (p, frameOf 3 cls idx data)
  | .takeAlert p cls idx data => some (p, frameOf 4 cls idx data)
  | .setMask p cls idx data => some (p, frameOf 5 cls idx data)
  | .confirm p cls idx data => some (p, frameOf 6 cls idx data)
  | .accept p cls idx data => some (p, frameOf 7 cls idx data)
  | .decline p cls idx data => some (p, frameOf 8 cls idx data)
  | .freeze p cls idx data => some (p, frameOf 9 cls idx data)
  | .release p cls idx data => some (p, frameOf 10 cls idx data)
  | .monitor p cls idx data => some (p, frameOf 11 cls idx data)
  | .tumbleAck p cls idx data => some (p, frameOf 12 cls idx data)
  | .allOnesFrameSynced p => some (p, allOnesFrame)
  | .frameWhileDesynced p w => some (p, w)
  | .frameGap .. | .zeroCrossPulse .. | .lossDeclaration | .qualificationWithdrawn | .lastGaspWindowExpiry
  | .rstnAssertion .. | .rstnRelease .. | .coldStart .. | .backupOnlyStart | .warmReturn .. | .vddCollapse .. | .vbkLoss
  | .doorFirstAdoption .. | .doorChange .. | .quadFirstAdoption .. | .quadStep .. | .quadIllegalJump .. | .drumBurstClose
  | .htsSample .. | .mismatchTimerExpiry | .mainSecond .. | .thermistorConversion .. | .phaseClockSecond | .restExpiry
  | .tumbleAckTimeout | .tumbleComplete | .recoveryEnd | .entryCommit | .settingsWriteComplete .. | .scanComplete
  | .sample .. | .flushComplete | .outageTimerSecond => none

end Sys2Proof
end

