-- ==== Sys2Proof/Machine/Flags.lean ====
section
/-! DEFINITION. Flags and outputs computed from the state: what runs, the freeze set's sum, slot states, the alert lines, the heat
permit, the tumble request, the scheduler's suspension, who logs the outage, and which settings writes are pending. -/

namespace Sys2Proof.Machine

/-- The main domain runs: VDD is present and RSTN is not held low (Introduction 3.2, R86). -/
def State.mainRunning (s : State) : Bool := s.vdd && !s.rstn

/-! ### Freeze set (R20, R25) -/

/-- The freeze set is not empty. -/
def Freeze.any (f : Freeze) : Bool := f.notify || f.panel || f.drive || f.loss || f.ret

/-- The sum of R25: 1 NOTIFY, 2 PANEL, 4 DRIVE, 8 LOSS, 16 RETURN. -/
def Freeze.code (f : Freeze) : Nat :=
  f.notify.toNat + 2 * f.panel.toNat + 4 * f.drive.toNat + 8 * f.loss.toNat + 16 * f.ret.toNat

/-! ### Journal slots (R38) -/

/-- The state of a slot, from what it holds (Table 3-2). -/
def Slot.state (sl : Slot) : SlotState :=
  if sl.blank then .blank
  else if !sl.openMark || sl.check != ~~~sl.seqNo then .corrupt
  else if sl.commit == some sl.seqNo then .complete
  else .opened

/-- A valid header (R38). -/
def Slot.validHeader (sl : Slot) : Bool := sl.state == .opened || sl.state == .complete

/-- `b` is later than `a` in modular order (Introduction 6.2). -/
def later (a b : Word) : Bool := decide (1 ≤ (b - a).toNat) && decide ((b - a).toNat ≤ 32767)

/-! ### The supply mode and the hand-over -/

/-- RUN with the hand-over CLOSED (Table 1-3). -/
def State.runClosed (s : State) : Bool := s.mains.mode == .run && s.handover.state == .closed

/-- FADING while a last gasp is due (R5). -/
def State.lastGaspWrites (s : State) : Bool := s.mains.mode == .fading && s.mains.lastGasp == .due

/-- The port's controller may write the record and the tallies (Table 1-3, R5, R30 check 3). -/
def State.mayWrite (s : State) (p : Port) : Bool :=
  match p with
  | .panel => s.runClosed
  | .drive => s.runClosed || s.lastGaspWrites

/-- The settings-write lock of R33 and R184 is open. -/
def State.settingsOpen (s : State) : Bool := s.runClosed && (s.lpr.phase == .idle || s.lpr.phase == .done)

/-- A plan is on offer or confirmed (R143). -/
def HoState.offering : HoState → Bool
  | .offeredAuto | .offeredHold | .confirmed => true
  | _ => false

/-! ### Scheduler (R147, R148) -/

/-- The states timed by the time remaining (Table 9-1). -/
def SchedState.timed : SchedState → Bool
  | .resting | .due | .tumbling | .recovery => true
  | _ => false

/-- The tumble-request output TMB (Table 9-1). -/
def SchedState.tmb : SchedState → Bool
  | .due | .tumbling | .recovery => true
  | _ => false

/-- The TMB output, low without the main domain (Table 9-3). -/
def State.tmb (s : State) : Bool := s.mainRunning && s.sched.state.tmb

/-- The three conditions under which the scheduler's timing runs (R148). -/
def State.schedRuns (s : State) : Bool := s.runClosed && s.lpr.runReq == .run

/-- The suspended mark (R148); IDLE and ENDED hold it clear (R156, R159, Table 9-3). -/
def State.suspended (s : State) : Bool := s.sched.state.timed && !s.schedRuns

/-- The conditions under which the phase clock counts (R14). -/
def State.clockCounts (s : State) : Bool :=
  s.runClosed && s.lpr.runReq == .run
    && (s.lpr.phase == .heat || s.lpr.phase == .cool || s.lpr.phase == .anticrease)

/-! ### Heat permit (R144) -/

/-- The heat-permit output HPM: low without the main domain, else high while all conditions of R144 hold. -/
def State.hpm (s : State) : Bool :=
  s.mainRunning && s.runClosed && s.lpr.phase == .heat && s.lpr.runReq == .run && s.sensing.door == some .closed
    && !s.sensing.fault && s.sensing.lastTemp.isSome && !s.handover.overLimit

/-! ### Alerts (R163, R165) -/

/-- Source `i` is pending. -/
def Alerts.has (a : Alerts) (i : Fin 13) : Bool := a.pending[i]

/-- Source `i` is pending and presentable (R165). -/
def Alerts.presentable (a : Alerts) (i : Fin 13) : Bool :=
  a.has i && (i == 0 || decide (a.levels[i] < a.mask))

/-- The alert line is asserted (R165). -/
def Alerts.line (a : Alerts) : Bool := (List.finRange 13).any a.presentable

/-- The source TAKE_ALERT chooses: MAINS_LOSS, else the lowest level, among equals the lowest number (R167). -/
def Alerts.first (a : Alerts) : Option (Fin 13) :=
  if a.presentable 0 then some 0
  else (List.finRange 13).foldl (fun best i =>
    if a.presentable i then
      match best with
      | none => some i
      | some b => if a.levels[i] < a.levels[b] then some i else some b
    else best) none

/-- The sum of 2 to the power of each source's number for which `f` holds (Table 10-2 indices 17, 18). -/
def sourceSum (f : Fin 13 → Bool) : Nat :=
  (List.finRange 13).foldl (fun n i => if f i then n + 2 ^ i.val else n) 0

/-- A port's alerts. -/
def State.alerts (s : State) : Port → Alerts
  | .panel => s.panelAlerts
  | .drive => s.driveAlerts

/-- A port's alert output: asserted, low, while the main domain runs and a source is presentable (R165). -/
def State.alertLine (s : State) (p : Port) : Bool := s.mainRunning && (s.alerts p).line

/-- A port's link state and registers. -/
def State.port (s : State) : Port → PortState
  | .panel => s.panelPort
  | .drive => s.drivePort

/-! ### Sensing and the outage record (R71) -/

/-- Sensing is the outage logger: a chain is open and the hand-over is EVALUATING or has a plan on offer or confirmed. -/
def State.logger (s : State) : Bool := s.outage.chainOpen && s.handover.state != .closed

/-- Sensing updates the sample references: it is the logger, or no chain is open. -/
def State.updatesRefs (s : State) : Bool := s.logger || !s.outage.chainOpen

/-- The evaluator has taken its inputs while the hand-over is still EVALUATING (R132, R138): no scan is due or running. -/
def State.inputsTaken (s : State) : Bool :=
  s.handover.state == .evaluating && !s.engine.scanDue && s.engine.work != .scanning

/-- The outage timer counts: a chain is open and the sequencer is DORMANT or WATCH (R90). -/
def State.timerCounts (s : State) : Bool :=
  s.outage.chainOpen && (s.seq.state == .dormant || s.seq.state == .watch)

/-! ### Store requests (R44, R50) -/

/-- A request of journal origin `o`. -/
def Request.isOrigin (o : Origin) : Request → Bool
  | .journal o' _ => o' == o
  | .settings .. => false

/-- A settings request of port `p`. -/
def Request.isSettings (p : Port) : Request → Bool
  | .journal .. => false
  | .settings p' .. => p' == p

/-- The engine is writing a setting for port `p`. -/
def Work.isSettings (p : Port) : Work → Bool
  | .settings p' .. => p' == p
  | _ => false

/-- The port's settings write is pending (R50, Table 11-7 indices 17, 18). -/
def State.settingsPending (s : State) (p : Port) : Bool :=
  s.engine.queue.any (Request.isSettings p) || s.engine.work.isSettings p

/-- The temperature table with the pending TEMP_TABLE write of port `p` made (R184 check 6). -/
def State.tableWithPending (s : State) (p : Port) : Settings :=
  let fromQueue := s.engine.queue.foldl (fun st r =>
    match r with
    | .settings p' (.temp i) w => if p' == p then st.put (.temp i) w else st
    | _ => st) s.settings
  match s.engine.work with
  | .settings p' (.temp i) w => if p' == p then fromQueue.put (.temp i) w else fromQueue
  | _ => fromQueue

end Sys2Proof.Machine
end

