-- ==== Sys2Proof/Machine/Ops.lean ====
section
/-! DEFINITION. The shared operations on the blocks: raising alerts, store requests and the engine's service, delivering
occurrences to the tallies, changes of the phase with the scheduler's starts and ends, and the outage log. -/

namespace Sys2Proof.Machine

/-! ### Ports and alerts -/

/-- The state with a port's alerts replaced. -/
def State.setAlerts (s : State) (p : Port) (a : Alerts) : State :=
  match p with
  | .panel => { s with panelAlerts := a }
  | .drive => { s with driveAlerts := a }

/-- The state with a port's link state and registers replaced. -/
def State.setPort (s : State) (p : Port) (q : PortState) : State :=
  match p with
  | .panel => { s with panelPort := q }
  | .drive => { s with drivePort := q }

/-- The pending set with a source added (R164). -/
def Alerts.add (a : Alerts) (x : Alert) : Alerts := { a with pending := a.pending.set x.num true }

/-- The pending set with a source removed. -/
def Alerts.remove (a : Alerts) (i : Fin 13) : Alerts := { a with pending := a.pending.set i false }

/-- Raises a source on one port (R164). -/
def raiseOn (x : Alert) (p : Port) (s : State) : State := s.setAlerts p ((s.alerts p).add x)

/-- Raises a source on both ports (R164). -/
def raiseBoth (x : Alert) (s : State) : State :=
  { s with panelAlerts := s.panelAlerts.add x, driveAlerts := s.driveAlerts.add x }

/-- The fault condition enters, on one port: SENSOR_FAULT joins the set and the taken mark clears (R166). -/
def Alerts.faultEnters (a : Alerts) : Alerts := { a.add .sensorFault with taken := false }

/-- The fault condition ceases, on one port: a taken SENSOR_FAULT leaves the set (R166). -/
def Alerts.faultCeases (a : Alerts) : Alerts :=
  if a.has Alert.sensorFault.num && a.taken then { a.remove Alert.sensorFault.num with taken := false } else a

/-! ### Store requests and the engine (R39 to R48) -/

/-- The snapshot of the record, the tallies and the scheduler's counts (R45, R160). -/
def State.snapshot (s : State) : Snapshot where
  programme := s.lpr.programme
  options := s.lpr.options
  runReq := s.lpr.runReq
  phase := s.lpr.phase
  deficit := s.lpr.deficit
  phaseClock := s.lpr.phaseClock
  temp := s.lpr.temp
  tallies := Vector.ofFn fun i => s.tallies[i].value
  nextDir := s.sched.nextDir
  pulsesDone := s.sched.pulsesDone
  missed := s.sched.missed

/-- A waiting request of origin `o` takes the snapshot `snap` (R47). -/
def Request.absorb (o : Origin) (snap : Snapshot) (r : Request) : Request :=
  if r.isOrigin o then .journal o snap else r

/-- A journal request from a block of the part: absorbed by a waiting one of its origin, else at the tail (R44, R47). -/
def request (o : Origin) (s : State) : State :=
  if s.engine.queue.any (Request.isOrigin o) then
    { s with engine.queue := s.engine.queue.map (Request.absorb o s.snapshot) }
  else { s with engine.queue := s.engine.queue ++ [.journal o s.snapshot] }

/-- The LASTGASP request, at the head of the queue (R44, R48). Made before the scan of R84 has ended, it snapshots the unbuilt record
as held (DESIGN CHOICE, log 8). -/
def requestLastGasp (s : State) : State :=
  if s.engine.queue.any (Request.isOrigin .lastgasp) then
    { s with engine.queue := s.engine.queue.map (Request.absorb .lastgasp s.snapshot) }
  else { s with engine.queue := .journal .lastgasp s.snapshot :: s.engine.queue }

/-- The sequence number of the next entry (R41). -/
def Engine.nextSeq (e : Engine) : Word :=
  match e.curSeq with
  | none => 1
  | some n => n + 1

/-- Begins a journal write at write position `pos` with the request at the head of the queue (R40, R41, R55). -/
def startEntry (o : Origin) (snap : Snapshot) (rest : List Request) (pos : Fin 16) (s : State) : State :=
  let n := s.engine.nextSeq
  { s with
    engine := { s.engine with work := .entry pos n o snap, queue := rest, curSeq := some n, writePos := some (pos + 1) }
    outage.summary.matchKey := if o = .lastgasp then some n else s.outage.summary.matchKey }

/-- The engine takes its next work: a due flush, a due scan, then the head of the queue (R39, R51, R52; log 12). Before the
first scan there is no write position, and a journal request at the head waits (R52; log 13). -/
def startWork (s : State) : State :=
  if s.seq.flushCopy.isSome then { s with engine.work := .flush }
  else if s.engine.scanDue then { s with engine.work := .scanning, engine.scanDue := false }
  else
    match s.engine.queue, s.engine.writePos with
    | .settings p it w :: rest, _ => { s with engine.work := .settings p it w, engine.queue := rest }
    | .journal o snap :: rest, some pos => startEntry o snap rest pos s
    | _, _ => s

/-- The engine serves its next work if it is IDLE and no flush runs on the backup path (R39, R51). -/
def serve (s : State) : State :=
  if s.mainRunning && s.engine.work == .idle && !s.seq.backupFlush then startWork s else s

/-! ### Occurrences (R19 to R24) -/

/-- The source of a working control at use. -/
def Tally.source (t : Tally) (i : Fin 6) : Source := Source.ofCode (controlUse i 0 t.ctl)

/-- A tally's value increased, wrapping past 16777215 (R23); the mark says whether it wrapped. -/
def Tally.plus (t : Tally) (n : Nat) : Tally × Bool :=
  if t.value + n > 16777215 then ({ t with value := (t.value + n) % 16777216, overflow := true }, true)
  else ({ t with value := t.value + n }, false)

/-- The condition of a threshold of 1 or more (R22). -/
def Tally.condition (t : Tally) (i : Fin 6) (inc : Nat) : Bool :=
  (decide (controlUse i 1 t.ctl ≤ inc)) != (controlUse i 2 t.ctl == 1)

/-- What an unfrozen, enabled tally does with an occurrence of its source (R21, R22). -/
def Tally.count (t : Tally) (i : Fin 6) (inc : Nat) : Tally × Bool :=
  if controlUse i 1 t.ctl = 0 then t.plus inc
  else
    let c := t.condition i inc
    let t' := { t with edgeMem := c }
    if c && !(controlUse i 3 t.ctl == 1 && t.edgeMem) then t'.plus 1 else (t', false)

/-- A tally at the delivery of an occurrence with the freeze set empty (R20). -/
def Tally.deliver (t : Tally) (i : Fin 6) (src : Source) (inc : Nat) : Tally × Bool :=
  if t.source i = src ∧ controlUse i 5 t.ctl = 1 then t.count i inc else (t, false)

/-- The tallies after an occurrence with the freeze set empty (R20). -/
def deliverAll (src : Source) (inc : Nat) (ts : Vector Tally 6) : Vector Tally 6 :=
  Vector.ofFn fun i => (ts[i].deliver i src inc).1

/-- Some tally with notify wraps at the occurrence (R24). -/
def notifyingWrap (src : Source) (inc : Nat) (ts : Vector Tally 6) : Bool :=
  (List.finRange 6).any fun i => (ts[i].deliver i src inc).2 && controlUse i 4 ts[i].ctl == 1

/-- The three effects of a notifying wrap (R24). -/
def notifyWrap (s : State) : State :=
  let s1 := raiseBoth .tallyTarget { s with freeze.notify := true }
  if s.settings.cfg 0 = 1 then request .tally s1 else s1

/-- One occurrence goes to the tallies (R20). -/
def deliver (src : Source) (inc : Nat) (s : State) : State :=
  if s.freeze.any then s
  else if notifyingWrap src inc s.tallies then
    notifyWrap { s with tallies := deliverAll src inc s.tallies }
  else { s with tallies := deliverAll src inc s.tallies }

/-! ### Phase changes and the scheduler (R11, R12, R35, R147 to R156) -/

/-- A PHASE request, made while the supply mode is RUN (R12). -/
def requestPhase (s : State) : State := if s.mains.mode = .run then request .phase s else s

/-- The preloaded tally's control is restored at a change into DONE (R35). -/
def restoreTarget (s : State) : State :=
  match s.preloaded with
  | none => s
  | some t =>
    { s with
      tallies := s.tallies.set t { s.tallies[t] with ctl := s.settings.controls[t], edgeMem := false }
      preloaded := none }

/-- The scheduler enters ENDED: TMB falls, a tumble is cut (R156). -/
def endSched (r : EndReason) (s : State) : State :=
  { s with sched.state := .ended, sched.remaining := 0, sched.endReason := r }

/-- A scheduler still running ends because the phase leaves ANTICREASE (R11, R156). -/
def endByChange (r : EndReason) (s : State) : State :=
  if s.sched.state.timed then raiseBoth .anticreaseEnd (endSched r s) else s

/-- The record's phase becomes `ph`, with the clock at `clock` and no part-second (R11). -/
def putPhase (ph : Phase) (clock : Nat) (s : State) : State :=
  { s with lpr.phase := ph, lpr.phaseClock := clock, lpr.partMs := 0 }

/-- The phase becomes DONE by a change (R11): clock 0, run request STOPPED, the target control restored (R35), a scheduler
still running ended for the reason `r`, a PHASE request. -/
def changeToDone (r : EndReason) (s : State) : State :=
  let s1 := restoreTarget { putPhase .done 0 s with lpr.runReq := .stopped }
  requestPhase (if s.lpr.phase = .anticrease then endByChange r s1 else s1)

/-- A part write of DONE: no change where the phase is DONE already (R11). -/
def writeDone (r : EndReason) (s : State) : State :=
  if s.lpr.phase = .done then s else changeToDone r s

/-- An ending of the scheduler's own: ENDED, DONE written into the record, ANTICREASE_END raised (R156). -/
def endOwn (r : EndReason) (s : State) : State :=
  raiseBoth .anticreaseEnd (writeDone .phase (endSched r s))

/-- The window test: at or beyond the window end the scheduler ends with reason WINDOW (R151). -/
def windowTest (s : State) : State :=
  if s.sched.windowEnd ≤ s.lpr.phaseClock then endOwn .window s else s

/-- Entry to RESTING with its time remaining, and the window test of the entry (R151). -/
def enterRest (ms : Nat) (s : State) : State :=
  windowTest { s with sched.state := .resting, sched.remaining := ms }

/-- A fresh start of the scheduler (R149). -/
def freshStart (s : State) : State :=
  let pr := s.settings.prof s.lpr.programme
  let s1 := { s with
    sched := { s.sched with
      nextDir := .cw, pulsesDone := 0, missed := 0, endReason := .none,
      windowEnd := pr.wSec s.lpr.options, period := pr.period, tumbleLen := pr.uEff } }
  if s.lpr.options.noAnticrease then endOwn .phase s1 else enterRest (pr.period * 1000) s1

/-- A change of the phase by the drive's write (R10, R11). -/
def changePhase (ph : Phase) (s : State) : State :=
  if ph = .done then changeToDone .phase s
  else
    let s1 := putPhase ph 0 s
    let s2 := if s.lpr.phase = .anticrease then endByChange .phase s1 else s1
    requestPhase (if ph = .anticrease then freshStart s2 else s2)

/-- DUE is entered: the request for a tumble (R152). -/
def enterDue (s : State) : State :=
  raiseOn .tumbleDue .drive
    { s with sched.state := .due, sched.remaining := 3000, sched.pulseDir := s.sched.nextDir }

/-- RECOVERY is entered (R155). -/
def enterRecovery (sec : Nat) (s : State) : State :=
  raiseOn .tumbleDue .drive
    { s with sched.state := .recovery, sched.remaining := sec * 1000, sched.pulseDir := s.sched.nextDir,
             sched.nextDir := s.sched.nextDir.opposite }

/-- A plan start of the scheduler (R150). -/
def planStart (pl : Plan) (s : State) : State :=
  let pr := s.settings.prof s.lpr.programme
  let s1 := { s with
    sched := { s.sched with
      nextDir := pl.nextDir, missed := 0, endReason := .none,
      windowEnd := pl.elapsed + pl.windowRem, period := pr.period, tumbleLen := pr.uEff } }
  if pl.recovery > 0 then enterRecovery pl.recovery s1 else enterRest (pl.offset * 1000) s1

/-- A loss declaration or the start of an evaluation makes a running scheduler IDLE and keeps its counts (R159). -/
def idleSched (s : State) : State :=
  if s.sched.state.timed then { s with sched.state := .idle, sched.remaining := 0 } else s

/-- A write of PAUSED or STOPPED: DUE, TUMBLING and RECOVERY are cut into RESTING for P (R158). -/
def suspendSched (s : State) : State :=
  if s.sched.state.tmb then serve (enterRest (s.sched.period * 1000) s) else s

/-! ### The outage log (R101, R102) -/

/-- The log with an item offered to it, and whether it was dropped (R102). -/
def offerItem (k : ItemKind) (t : Nat) (amount : Option Nat) (l : List LogItem) : List LogItem × Bool :=
  if l.length < 24 then (l ++ [⟨k, t, amount⟩], false)
  else
    match l.getLast? with
    | some last =>
      if k = .drumMove ∧ last.kind = .drumMove then
        (l.dropLast ++ [⟨.drumMove, t, some (min 65535 (last.amount.getD 0 + amount.getD 0))⟩], false)
      else (l, true)
    | none => (l, true)

/-- An item is offered to the outage log, timed by the outage timer (R101, R102). -/
def appendItem (k : ItemKind) (amount : Option Nat) (s : State) : State :=
  let r := offerItem k s.outage.summary.duration amount s.outage.log
  { s with
    outage.log := r.1
    outage.summary.itemsLost :=
      if r.2 then min 255 (s.outage.summary.itemsLost + 1) else s.outage.summary.itemsLost }

/-- A net position increased, saturating at either end (Table 6-6). -/
def netPlus (n d : Int) : Int := max (-32768) (min 32767 (n + d))

/-- The summary takes one step: total +1, net +1 for CW or −1 for CCW (R62, R94). -/
def Summary.addStep (m : Summary) (d : Dir) : Summary :=
  { m with quarters := min 65535 (m.quarters + 1), net := netPlus m.net (if d = .cw then 1 else -1) }

/-- The summary takes an ambiguous step: motion uncertain, total +2 (R64, R94). -/
def Summary.addAmbiguous (m : Summary) : Summary :=
  { m with uncertain := true, quarters := min 65535 (m.quarters + 2) }

end Sys2Proof.Machine
end

