-- ==== Sys2Proof/Machine/Evaluate.lean ====
section
/-! DEFINITION. The resume evaluator's computation (spec/07_resume_evaluation.md): from its inputs to the plan record. It acts on
nothing. -/

namespace Sys2Proof.Machine

/-- The inputs of a computation (R113 to R116). -/
structure EvalIn where
  entry : Option Entry
  torn : Nat
  tOut : Nat
  quality : Quality
  doorOpened : Bool
  quarters : Nat
  uncertain : Bool
  resetSeen : Bool
  /-- The thermistor fault condition holds (R115). -/
  fault : Bool
  tRet : Option Int
  prof : Prof
  /-- The recomputation carries the confirmation (R112). -/
  confirmed : Bool
  /-- The free class, among those that some profile gives, where no profile is read and the quality is KNOWN (log 11). -/
  openClass : OutClass
deriving DecidableEq, Repr

/-! ### Reasons (Table 7-6) -/

/-- DOOR_OPENED. -/
def rDoorOpened : BitVec 12 := 1
/-- OUTAGE_LONG. -/
def rOutageLong : BitVec 12 := 2
/-- OUTAGE_UNKNOWN. -/
def rOutageUnknown : BitVec 12 := 4
/-- DRUM_DISTURBED. -/
def rDrumDisturbed : BitVec 12 := 8
/-- DEFICIT_ABANDON. -/
def rDeficitAbandon : BitVec 12 := 16
/-- WINDOW_EXPIRED. -/
def rWindowExpired : BitVec 12 := 32
/-- TORN_SKIPPED. -/
def rTornSkipped : BitVec 12 := 64
/-- SENSOR_FAULT. -/
def rSensorFault : BitVec 12 := 128
/-- NO_AUTO. -/
def rNoAuto : BitVec 12 := 256
/-- PAUSED. -/
def rPaused : BitVec 12 := 512
/-- RESET_RETURN. -/
def rResetReturn : BitVec 12 := 1024
/-- COOL_SATISFIED. -/
def rCoolSatisfied : BitVec 12 := 2048

/-- A reason that is set when its test holds. -/
def reasonIf (b : Bool) (r : BitVec 12) : BitVec 12 := if b then r else 0

/-- A KNOWN outage's class where no profile is read: what Table 7-4 gives under every profile that the ranges of Table 7-3 allow.
T_out 0 is SHORT; beyond 600 s no outage is SHORT; beyond 43200 s each is LONG; between these the class is the free one `c`
(log 11). -/
def classWithoutProfile (tOut : Nat) (c : OutClass) : OutClass :=
  if tOut = 0 then .short
  else if 43200 < tOut then .long
  else if 600 < tOut ∧ c = .short then .medium
  else c

/-- The outage class (Table 7-4); without an entry no profile is read (R113), and a KNOWN outage's class is open as far as the
ranges of the profile leave it so (log 11). -/
def EvalIn.cls (i : EvalIn) : OutClass :=
  match i.quality with
  | .unknown => .unknown
  | .lowerBound => .long
  | .known =>
    if i.entry.isNone then classWithoutProfile i.tOut i.openClass
    else if i.tOut ≤ i.prof.sShort then .short
    else if i.tOut ≤ i.prof.lHeat * 60 then .medium
    else .long

/-- The drum counts as disturbed (R118). -/
def EvalIn.disturbed (i : EvalIn) : Bool := decide (i.prof.disturb < i.quarters) || i.uncertain

/-- The reasons set whatever the row (R120). -/
def EvalIn.baseReasons (i : EvalIn) : BitVec 12 :=
  reasonIf (decide (1 ≤ i.torn)) rTornSkipped ||| reasonIf i.fault rSensorFault ||| reasonIf i.resetSeen rResetReturn

/-- The fields every row gives, before the row's own (R127): target `ph`, deficit `d`. -/
def EvalIn.base (i : EvalIn) (v : Verdict) (ph : Phase) (d : Nat) : Plan where
  verdict := v
  reasons := i.baseReasons
  target := ph
  cls := i.cls
  tOut := i.tOut
  dPrime := d
  rawHeat := 0
  credit := 0
  heatSec := 0
  coolSec := 0
  elapsed := 0
  windowRem := 0
  offset := 0
  recovery := 0
  nextDir := (i.entry.map (·.body.nextDir)).getD .cw
  programme := (i.entry.map (·.body.programme)).getD 0
  options := (i.entry.map (·.body.options)).getD Options.empty
  sourceSeq := i.entry.map (·.seqNo)
  evalCount := 1
  tRet := i.tRet

/-- A plan with further reasons. -/
def Plan.addReasons (p : Plan) (r : BitVec 12) : Plan := { p with reasons := p.reasons ||| r }

/-- The PAUSED test (R123 to R126): E's run request is PAUSED and no confirmation waives it. -/
def EvalIn.pausedTest (i : EvalIn) (e : Snapshot) : Bool := e.runReq == .paused && !i.confirmed

/-- HOLD when one of the tests holds, with the reasons of those that do, else AUTO. -/
def Plan.holdIf (p : Plan) (r : BitVec 12) : Plan :=
  { p.addReasons r with verdict := if r = 0 then .auto else .hold }

/-- The exhaust is known and lies above the cool target (R115, R123). -/
def EvalIn.hot (i : EvalIn) : Bool :=
  match i.tRet with
  | none => false
  | some t => decide ((i.prof.tCool : Int) < t)

/-- The exhaust is known and lies at or below the cool target (R115, R123, R125). -/
def EvalIn.cooled (i : EvalIn) : Bool :=
  match i.tRet with
  | none => false
  | some t => decide (t ≤ (i.prof.tCool : Int))

/-- The anti-crease remainder from an elapsed time (R121); `holds` are the reasons that make a plan that does not end HOLD. -/
def EvalIn.remainder (i : EvalIn) (e : Snapshot) (d elapsed : Nat) (extra holds : BitVec 12) : Plan :=
  let w := i.prof.wSec e.options
  let endPlan := ((i.base .ended .done d).addReasons extra).addReasons rWindowExpired
  if w ≤ elapsed then { endPlan with elapsed := elapsed }
  else if w - elapsed ≤ i.prof.uEff then { endPlan with elapsed := elapsed, windowRem := w - elapsed }
  else
    let rec' := if i.prof.crease * 60 ≤ i.tOut then i.prof.recovery else 0
    let off := if rec' = 0 then i.prof.period - elapsed % i.prof.period else i.prof.period
    { ((i.base .auto .anticrease d).addReasons extra).holdIf holds with
      elapsed := elapsed, windowRem := w - elapsed, offset := off, recovery := rec' }

/-- The deficit after regain (R122). -/
def EvalIn.regained (i : EvalIn) (e : Snapshot) : Nat :=
  let r := if i.doorOpened then i.prof.rOpened else i.prof.rClosed
  let regain := if i.cls = .short then 0 else i.tOut * r / 3600
  min 1000 (e.deficit + regain)

/-- The abandon branch (R123). -/
def EvalIn.abandonBranch (i : EvalIn) (d : Nat) : Plan :=
  if i.hot ∧ 1 ≤ i.prof.coolMin then
    { (i.base .hold .cool d).addReasons rDeficitAbandon with coolSec := i.prof.coolMin }
  else (i.base .ended .done d).addReasons rDeficitAbandon

/-- The dry branch (R123). -/
def EvalIn.dryBranch (i : EvalIn) (e : Snapshot) : Plan :=
  let sat := reasonIf i.cooled rCoolSatisfied
  let paused := reasonIf (i.pausedTest e) rPaused
  if i.hot ∧ 1 ≤ i.prof.coolMin then
    { ((i.base .auto .cool 0).addReasons sat).holdIf (reasonIf i.doorOpened rDoorOpened ||| paused) with
      coolSec := i.prof.coolMin }
  else if i.doorOpened then ((i.base .ended .done 0).addReasons sat).addReasons rDoorOpened
  else if e.options.noAnticrease then (i.base .ended .done 0).addReasons sat
  else i.remainder e 0 0 sat paused

/-- The warm credit before its cap (R124 step 2). -/
def EvalIn.rawCredit (i : EvalIn) : Nat :=
  match i.tRet with
  | none => 0
  | some t => (t - i.prof.tRef).toNat * i.prof.creditRate

/-- The heat branch (R124). -/
def EvalIn.heatBranch (i : EvalIn) (e : Snapshot) (d : Nat) : Plan :=
  let h := d * i.prof.secPerUnit
  let c := min i.rawCredit (h / 2)
  let holds := reasonIf i.doorOpened rDoorOpened ||| reasonIf (i.cls == .long) rOutageLong
    ||| reasonIf i.disturbed rDrumDisturbed ||| reasonIf (i.prof.autoResume == 0) rNoAuto
    ||| reasonIf (i.pausedTest e) rPaused
  { (i.base .auto .heat d).holdIf holds with rawHeat := h, credit := c, heatSec := min i.prof.hCap (h - c) }

/-- An entry in HEAT (R122). -/
def EvalIn.heatEntry (i : EvalIn) (e : Snapshot) : Plan :=
  let d := i.regained e
  if i.prof.dAbandon < d then i.abandonBranch d
  else if d = 0 then i.dryBranch e
  else i.heatBranch e d

/-- An entry in COOL (R125). A door opened leads to HOLD and not to END, also where the load goes on to anti-crease, as R125 says;
R139's table, by which a door item makes an ANTICREASE target END, is read of the entries that R123 and R126 end (DEDUCED,
log 42). -/
def EvalIn.coolEntry (i : EvalIn) (e : Snapshot) : Plan :=
  let holds := reasonIf i.doorOpened rDoorOpened ||| reasonIf (i.pausedTest e) rPaused
  if i.cooled then
    if e.options.noAnticrease then (i.base .ended .done e.deficit).addReasons rCoolSatisfied
    else i.remainder e e.deficit (min i.tOut (i.prof.wSec e.options)) rCoolSatisfied holds
  else
    { (i.base .auto .cool e.deficit).holdIf holds with coolSec := max 60 (i.prof.coolMin - e.phaseClock) }

/-- An entry in ANTICREASE (R126). -/
def EvalIn.anticreaseEntry (i : EvalIn) (e : Snapshot) : Plan :=
  if i.doorOpened then (i.base .ended .done e.deficit).addReasons rDoorOpened
  else if e.options.noAnticrease then i.base .ended .done e.deficit
  else i.remainder e e.deficit (min 65535 (e.phaseClock + i.tOut)) 0 (reasonIf (i.pausedTest e) rPaused)

/-- The decision (R119), with the evaluation count `n`. -/
def EvalIn.plan (i : EvalIn) (n : Nat) : Plan :=
  let p : Plan :=
    match i.entry with
    | none => i.base .none .idle 0
    | some en =>
      let e := en.body
      if e.phase = .idle ∨ e.phase = .done ∨ e.runReq = .stopped then i.base .none e.phase e.deficit
      else if i.cls = .unknown then (i.base .ended .done e.deficit).addReasons rOutageUnknown
      else
        match e.phase with
        | .heat => i.heatEntry e
        | .cool => i.coolEntry e
        | .anticrease => i.anticreaseEntry e
        | .idle | .done => i.base .none e.phase e.deficit
  { p with evalCount := n }

/-- Two plans agree in the decision fields: fields 0 to 3 and 5 to 13 (R128). -/
def Plan.sameDecision (a b : Plan) : Bool :=
  a.verdict == b.verdict && a.reasons == b.reasons && a.target == b.target && a.cls == b.cls && a.dPrime == b.dPrime
    && a.rawHeat == b.rawHeat && a.credit == b.credit && a.heatSec == b.heatSec && a.coolSec == b.coolSec
    && a.elapsed == b.elapsed && a.windowRem == b.windowRem && a.offset == b.offset && a.recovery == b.recovery

/-! ### Taking the inputs -/

/-- T_ret (R115). -/
def State.tRet (s : State) : Option Int :=
  if s.sensing.fault then s.outage.summary.lastTemp
  else
    match s.sensing.lastTemp with
    | some t => some t
    | none => s.outage.summary.lastTemp

/-- The open class at the counter (log 11). -/
def openClassAt (n : Nat) : OutClass :=
  match Config.freeClass n with
  | 0 => .short
  | 1 => .medium
  | 2 => .long

/-- The evaluator's inputs as they stand (R111 to R116). -/
def State.evalIn (s : State) (k : Kept) (confirmed : Bool) : EvalIn where
  entry := k.entry
  torn := k.torn
  tOut := s.outage.summary.duration
  quality := s.outage.summary.quality
  doorOpened := s.outage.summary.doorOpened
  quarters := s.outage.summary.quarters
  uncertain := s.outage.summary.uncertain
  resetSeen := s.outage.resetSeen
  fault := s.sensing.fault
  tRet := s.tRet
  prof := s.settings.prof ((k.entry.map (·.body.programme)).getD 0)
  confirmed := confirmed
  openClass := openClassAt s.freeCount

end Sys2Proof.Machine
end

