-- ==== Sys2Proof/Machine/HandOver.lean ====
section
/-! DEFINITION. The hand-over's acts (spec/08_plan_hand_over_and_heat_permit.md): the build, publication, recomputation, what a new
log item does, the END, the apply and the close of the chain. -/

namespace Sys2Proof.Machine

/-! ### The close (R108, R142) -/

/-- The outage chain is closed (R108); sensing's open burst ends without an item (R63). -/
def closeChain (s : State) : State :=
  { s with
    outage.chainOpen := false
    outage.fresh := false
    outage.keyFromScan := false
    sensing.burst := none
    seq.pace := 0
    seq.quiet := 0 }

/-- The MAINS_DIPS occurrence of a close (R19, R142 step 3). -/
def mainsDips (s : State) : State :=
  if s.outage.openedBy = .loss ∧ s.outage.summary.duration ≤ 1 then deliver .mainsDips 1 s else s

/-- The hand-over closes (R142). -/
def close (s : State) : State :=
  let s1 := request .resume (mainsDips (closeChain { s with freeze.ret := false }))
  { s1 with kept := none, handover.state := .closed }

/-- An END is carried out (R141). -/
def carryEnd (s : State) : State := close (writeDone .phase s)

/-! ### Publication and recomputation (R112, R133) -/

/-- The plan record is replaced whole and VERDICT_READY raised (R133). -/
def publish (p : Plan) (s : State) : State := raiseBoth .verdictReady { s with plan := some p }

/-- The plan of a recomputation with the kept inputs (R112). -/
def State.recomputed (s : State) (k : Kept) (confirmed : Bool) : Plan :=
  (s.evalIn k confirmed).plan (min 255 ((s.plan.map (·.evalCount)).getD 0 + 1))

/-- A recomputation's publication: PLAN_CHANGED too where a decision field differs from the plan replaced (R128, R133). -/
def republish (p : Plan) (s : State) : State :=
  let s1 := publish p s
  if (s.plan.map (·.sameDecision p)).getD false then s1 else raiseBoth .planChanged s1

/-- A recomputation without the confirmation and what the hand-over does with it in OFFERED_AUTO (R138). -/
def recomputeAuto (s : State) : State :=
  match s.kept with
  | none => s
  | some k =>
    let p := s.recomputed k false
    let s1 := republish p s
    match p.verdict with
    | .hold => { s1 with handover.state := .offeredHold }
    | .ended => carryEnd s1
    | .auto | .none => s1

/-- The recomputation at a CONFIRM, which carries the confirmation (R135), with the verdict it gives. -/
def recomputeConfirm (s : State) : State × Verdict :=
  match s.kept with
  | none => (s, .none)
  | some k =>
    let p := s.recomputed k true
    let s1 := republish p s
    match p.verdict with
    | .auto | .hold => ({ s1 with handover.state := .confirmed }, p.verdict)
    | .ended => (carryEnd s1, .ended)
    | .none => (s1, .none)

/-- A door item. -/
def ItemKind.isDoor : ItemKind → Bool
  | .doorOpen | .doorClose => true
  | _ => false

/-- A new log item reaches the hand-over (R138). -/
def newLogItem (k : ItemKind) (s : State) : State :=
  match s.handover.state with
  | .evaluating => if s.inputsTaken then { s with handover.late := true } else s
  | .offeredAuto => recomputeAuto s
  | .confirmed =>
    if k.isDoor then raiseBoth .planChanged { s with handover.state := .offeredHold } else s
  | .offeredHold | .closed => s

/-- Sensing as the outage logger appends an item, and the item is handed to the hand-over (R107). -/
def senseItem (k : ItemKind) (amount : Option Nat) (s : State) : State := newLogItem k (appendItem k amount s)

/-! ### The build (R16, R36, R160) -/

/-- The exhaust temperature field at a build (R15): sensing's latest valid temperature, else the reference, else 0. -/
def State.buildTemp (s : State) : Int :=
  match s.sensing.lastTemp with
  | some t => t
  | none => s.refs.temp.getD 0

/-- The record at a build (Table 1-5). -/
def State.buildLpr (s : State) : Option Entry → Lpr
  | some e =>
    { programme := e.body.programme, options := e.body.options, runReq := e.body.runReq, phase := e.body.phase,
      deficit := e.body.deficit, phaseClock := e.body.phaseClock, partMs := 0, temp := s.buildTemp,
      stale := s.lpr.stale || s.sensing.lastTemp.isNone }
  | none => { Lpr.start with temp := s.buildTemp, stale := s.lpr.stale || s.sensing.lastTemp.isNone }

/-- A tally at a build: its value from the entry, its flag cleared (R36). -/
def Tally.built (t : Tally) (v : Nat) : Tally := { t with value := v, overflow := false }

/-- The record, the tallies and the scheduler's counts are built from the newest complete entry (R16, R36, R160). -/
def build (e : Option Entry) (s : State) : State :=
  let vals := (e.map (·.body.tallies)).getD (Vector.replicate 6 0)
  { s with
    built := true
    lpr := s.buildLpr e
    tallies := Vector.ofFn fun i => s.tallies[i].built vals[i]
    sched.nextDir := (e.map (·.body.nextDir)).getD .cw
    sched.pulsesDone := (e.map (·.body.pulsesDone)).getD 0
    sched.missed := (e.map (·.body.missed)).getD 0 }

/-! ### From evaluation to offer (R132) -/

/-- The hand-over acts on the verdict of an evaluation (R132 step 3). -/
def actOnVerdict (v : Verdict) (s : State) : State :=
  match v with
  | .none => close s
  | .ended => carryEnd s
  | .auto =>
    let s1 := { s with handover.state := .offeredAuto }
    if s.handover.late then recomputeAuto s1 else s1
  | .hold => { s with handover.state := .offeredHold }

/-- The end of an evaluation: inputs kept, build, publication, act, late-item mark cleared (R111, R132). -/
def endEvaluation (k : Kept) (s : State) : State :=
  let p := (s.evalIn k false).plan 1
  let s1 := publish p (build k.entry { s with kept := some k })
  let s2 := actOnVerdict p.verdict s1
  { s2 with handover.late := false }

/-! ### Adoption of the flushed copy (R105) -/

/-- The copy is adopted (R105). -/
def State.adopts (s : State) (newest : Option Word) : Bool :=
  s.outage.summary.quality == .unknown && s.flushedCopy.flushed && s.flushedCopy.quality == .lowerBound
    && s.flushedCopy.matchKey.isSome && s.flushedCopy.matchKey == newest

/-- The summary after adoption of a copy (R105). -/
def Summary.adopt (m c : Summary) : Summary where
  duration := min 65535 (m.duration + c.duration)
  quality := .lowerBound
  doorOpened := m.doorOpened || c.doorOpened
  doorOpenSec := min 65535 (m.doorOpenSec + c.doorOpenSec)
  quarters := min 65535 (m.quarters + c.quarters)
  net := netPlus m.net c.net
  uncertain := m.uncertain || c.uncertain
  lastTemp := if m.lastTemp.isSome then m.lastTemp else c.lastTemp
  backupLow := m.backupLow || c.backupLow
  itemsLost := min 255 (m.itemsLost + c.itemsLost)
  matchKey := m.matchKey
  flushed := true

/-- A matching flushed copy is merged into an UNKNOWN chain (R105). -/
def adoption (newest : Option Word) (s : State) : State :=
  if s.adopts newest then { s with outage.summary := s.outage.summary.adopt s.flushedCopy } else s

/-! ### The apply (R140) -/

/-- The target tally's preload (R34). -/
def preload (t : Fin 6) (heatSec : Nat) (s : State) : State :=
  let old := s.tallies[t]
  { s with
    tallies := s.tallies.set t
      { value := 16777216 - heatSec, overflow := false, edgeMem := false,
        ctl := (((old.ctl.set 0 1).set 1 0).set 4 1).set 5 1 }
    preloaded := some t }

/-- Step 2 of the apply: the preload of a HEAT plan's target tally (R34, R140). -/
def preloadTarget (pl : Plan) (s : State) : State :=
  if pl.target = .heat then
    if h : s.settings.cfg 1 < 6 then preload ⟨s.settings.cfg 1, h⟩ pl.heatSec s else s
  else s

/-- The clock an apply sets: A′ for ANTICREASE, else 0 (R14, R140). -/
def Plan.applyClock (pl : Plan) : Nat := if pl.target = .anticrease then pl.elapsed else 0

/-- Step 3 of the apply, but for its PHASE request: the phase is written and the clock set (R11, R140). -/
def applyPhase (pl : Plan) (s : State) : State :=
  if s.lpr.phase = pl.target then putPhase pl.target pl.applyClock s
  else if pl.target = .done then changeToDone .phase s
  else
    let s1 := putPhase pl.target pl.applyClock s
    if s.lpr.phase = .anticrease then endByChange .phase s1 else s1

/-- The PHASE request of an apply whose target differs from the built phase (R12, R140 step 3). It is taken after the plan start
of step 5, which is one of the change's effects, so that its snapshot shows them all (DEDUCED, log 34). -/
def applyRequest (pl : Plan) (old : Phase) (s : State) : State :=
  if old = pl.target ∨ pl.target = .done then s else requestPhase s

/-- A plan is applied (R140): deficit and run request, preload, phase and clock, RETURN, plan start, PHASE request (log 34). -/
def apply (pl : Plan) (s : State) : State :=
  let s1 := { s with lpr.deficit := pl.dPrime, lpr.runReq := .run }
  let s2 := applyPhase pl (preloadTarget pl s1)
  let s3 := { s2 with freeze.ret := false }
  applyRequest pl s.lpr.phase (if pl.target = .anticrease then planStart pl s3 else s3)

end Sys2Proof.Machine
end

