-- ==== Sys2Proof/Machine/Sense.lean ====
section
/-! DEFINITION. Sensing's acts (spec/04_sensing_inputs.md): the door, the drum, the heater sense, the thermistor, and the catch-up
at the start of an evaluation. -/

namespace Sys2Proof.Machine

/-! ### Door (R59, R60) -/

/-- The scheduler is told of a door opening (R157). -/
def doorToSched (s : State) : State := if s.sched.state.timed then endOwn .door s else s

/-- Steps 3 and 4 of a door change: a DOOR_OPENINGS occurrence, and the scheduler, for an opening (R60). -/
def doorOpening (d : Door) (s : State) : State :=
  if d = .opened then doorToSched (deliver .doorOpenings 1 s) else s

/-- Step 5 of a door change: the reference, and for the outage logger the finding and the item (R60). -/
def doorToRecord (d : Door) (s : State) : State :=
  if s.logger then
    let s1 := { s with refs.door := some d, outage.summary.doorOpened := s.outage.summary.doorOpened || d == .opened }
    senseItem (if d = .opened then .doorOpen else .doorClose) none s1
  else if s.outage.chainOpen then s
  else { s with refs.door := some d }

/-- A debounced door change is handed on (R60). The record's door field and the heat permit follow sensing's door at once
(R15, R144). -/
def doorChangeTo (d : Door) (s : State) : State :=
  raiseBoth .doorChanged (doorToRecord d (doorOpening d { s with sensing.door := some d }))

/-- The catch-up for the door (R71): a known door that differs from a present reference is handed on as a door change, and the
reference takes it. -/
def catchUpDoor (s : State) : State :=
  match s.sensing.door with
  | none => s
  | some d =>
    if s.refs.door.isSome && s.refs.door != some d then doorChangeTo d s else { s with refs.door := some d }

/-- The debounced input has held level `d` for 20 ms (R59): first adoption, a door change, or the level held already. -/
def acceptDoor (d : Door) (s : State) : State :=
  match s.sensing.door with
  | none =>
    let s1 := { s with sensing.door := some d }
    if s1.logger then catchUpDoor s1 else s1
  | some d' => if d = d' then s else doorChangeTo d s

/-! ### Drum (R61 to R64) -/

/-- The open burst closes with its DRUM_MOVE item (R63). -/
def closeBurst (s : State) : State :=
  match s.sensing.burst with
  | none => s
  | some n => senseItem .drumMove (some n) { s with sensing.burst := none }

/-- A step joins the open burst, or opens one (R63). -/
def burstStep (b : Option Nat) : Option Nat := some (min 65535 (b.getD 0 + 1))

/-- The outage logger hands a step to the summary and to the burst (R62). -/
def stepToRecord (d : Dir) (s : State) : State :=
  { s with
    outage.summary := s.outage.summary.addStep d
    sensing.burst := burstStep s.sensing.burst }

/-- The reference quadrature state takes the new state where sensing updates the references (R62, R64). -/
def quadToRefs (q : Quad) (s : State) : State :=
  if s.updatesRefs then { s with refs.quad := some q } else s

/-- The turn accumulator after a step, and whether a turn event follows (R62). -/
def accStep (acc : Int) (d : Dir) : Int × Bool :=
  let a := acc + if d = .cw then 1 else -1
  if a = 4 ∨ a = -4 then (0, true) else (a, false)

/-- A step (R62). -/
def quadStepTo (q : Quad) (d : Dir) (s : State) : State :=
  let s1 := { s with sensing.quad := some q }
  let s2 := if s.sensing.prevDir = some d.opposite then deliver .reversals 1 s1 else s1
  let r := accStep s.sensing.acc d
  let s3 := { s2 with sensing.prevDir := some d, sensing.acc := r.1 }
  let s4 := if r.2 then deliver .drumTurns 1 s3 else s3
  quadToRefs q (if s4.logger then stepToRecord d s4 else s4)

/-- An illegal jump as the outage logger records it: the burst closes, then a MOTION_UNCERTAIN item (R64). An item that ends
the chain leaves sensing no longer the logger, and the closed log takes no further item (R63, R108). -/
def jumpToRecord (s : State) : State :=
  let s1 := closeBurst s
  if s1.logger then
    senseItem .motionUncertain none { s1 with outage.summary := s1.outage.summary.addAmbiguous }
  else s1

/-- An illegal jump (R64). -/
def quadJumpTo (q : Quad) (s : State) : State :=
  let s1 := quadToRefs q { s with sensing.quad := some q, sensing.quadFaults := min 255 (s.sensing.quadFaults + 1) }
  if s1.logger then jumpToRecord s1 else s1

/-- The catch-up for the drum (R71). -/
def catchUpQuad (s : State) : State :=
  match s.sensing.quad with
  | none => s
  | some q =>
    let s1 := { s with refs.quad := some q }
    match s.refs.quad with
    | none => s1
    | some r =>
      match quadMove r q with
      | .same => s1
      | .step d => stepToRecord d s1
      | .opposite => jumpToRecord s1

/-- The Hall combination `q` has held for 2 ms (R61): first adoption, a step, an illegal jump, or the tracked state. -/
def acceptQuad (q : Quad) (s : State) : State :=
  match s.sensing.quad with
  | none =>
    let s1 := { s with sensing.quad := some q }
    if s1.logger then catchUpQuad s1 else s1
  | some t =>
    match quadMove t q with
    | .same => s
    | .step d => quadStepTo q d s
    | .opposite => quadJumpTo q s

/-! ### Heater sense (R65, R66) -/

/-- An HTS sample (R65, R66). -/
def htsSampled (high : Bool) (s : State) : State :=
  let bad := high && !s.hpm
  { s with
    sensing := { s.sensing with
      htsLatest := high
      htsHighs := s.sensing.htsHighs + high.toNat
      episode := if bad then (if s.sensing.episode = .none then .running else s.sensing.episode) else .none
      mismatchMs := if bad && s.sensing.episode == .none then 0 else s.sensing.mismatchMs } }

/-! ### The main-domain second (R60, R65, R69, R70) -/

/-- The increment of TEMP_SECONDS: the record's exhaust temperature, or while it is unbuilt the latest valid one; below 0 taken
as 0 (R19, R69). -/
def State.tempIncrement (s : State) : Nat :=
  if s.built then s.lpr.temp.toNat else (s.sensing.lastTemp.getD 0).toNat

/-- The HEATER_SECONDS occurrence of a heater second (R65). It is handed to the tallies whatever the heat permit and the thermistor
fault, as R65 says; R124's Caution that heater seconds are not counted towards the target under a fault is taken to rest on a heater
that is off while the permit is low (DEDUCED, log 40). -/
def heaterSecond (s : State) : State :=
  if 50 ≤ s.sensing.htsHighs then deliver .heaterSeconds 1 s else s

/-- The TEMP_SECONDS occurrence of a second (R69). -/
def tempSecond (s : State) : State := deliver .tempSeconds s.tempIncrement s

/-- The door-open second of the outage logger (R60). A second counts if at its end the door is OPEN and sensing is the logger: what
held in part of the second R60 leaves open (DESIGN CHOICE, log 35). -/
def doorOpenSecond (s : State) : State :=
  if s.logger && s.sensing.door == some .opened then
    { s with outage.summary.doorOpenSec := min 65535 (s.outage.summary.doorOpenSec + 1) }
  else s

/-- A main-domain second ends (R60, R65, R69, R70). -/
def secondEnds (vbkMv : Nat) (tempFirst : Bool) (s : State) : State :=
  let s1 := if tempFirst then heaterSecond (tempSecond s) else tempSecond (heaterSecond s)
  let s2 := doorOpenSecond s1
  { s2 with sensing := { s2.sensing with htsHighs := 0, secondMs := 0, backupMv := some (measuredMv vbkMv) } }

/-! ### Thermistor (R67 to R69, R145) -/

/-- The over-limit mark after a valid conversion (R145). -/
def overLimitAfter (mark : Bool) (t limit : Int) : Bool :=
  if mark then decide (limit - 5 ≤ t) else decide (limit ≤ t)

/-- A valid conversion to temperature `t` (R67, R69, R145, R166). -/
def validConversion (t : Int) (s : State) : State :=
  let s1 := if s.sensing.fault then
      { s with panelAlerts := s.panelAlerts.faultCeases, driveAlerts := s.driveAlerts.faultCeases }
    else s
  { s1 with
    sensing := { s1.sensing with fault := false, faultAsLogger := false, lastTemp := some t }
    lpr := { s1.lpr with temp := if s.built then t else s.lpr.temp, stale := false }
    handover.overLimit := overLimitAfter s.handover.overLimit t (s.settings.cfg 7)
    refs.temp := if s.updatesRefs then some t else s.refs.temp }

/-- The entry into the fault condition (R67, R166). -/
def faultEntry (s : State) : State :=
  let s1 := { s with
    sensing.fault := true
    sensing.faultAsLogger := s.logger
    panelAlerts := s.panelAlerts.faultEnters
    driveAlerts := s.driveAlerts.faultEnters }
  if s.logger then senseItem .sensorFault none s1 else s1

/-- A thermistor conversion completes (R67). A table that cannot be used sets the store fault (R186). -/
def conversion (code : BitVec 10) (s : State) : State :=
  let s1 := { s with sensing.convCode := some code }
  if codeValid code then
    validConversion (temperatureOf s.settings.temp code)
      { s1 with storeFault := s.storeFault || !tableUsable s.settings.temp }
  else
    let s2 := { s1 with lpr.stale := true }
    if s.sensing.fault then s2 else faultEntry s2

/-! ### Catch-up and the start of an evaluation (R71, R132, R159) -/

/-- The catch-up for the thermistor: the item of a fault that entered while sensing was not the logger, and the reference
temperature (R71). A fault that still holds at a later catch-up gives its item again, as R71 reads by itself (DEDUCED, log 16). The
reference takes the latest valid temperature, a fault notwithstanding; without a valid conversion since the start it stays as it was
(DESIGN CHOICE, log 43). -/
def catchUpTemp (s : State) : State :=
  let s1 := if s.sensing.fault && !s.sensing.faultAsLogger then senseItem .sensorFault none s else s
  match s1.sensing.lastTemp with
  | none => s1
  | some t => { s1 with refs.temp := some t }

/-- Evaluation starts: the hand-over becomes EVALUATING, the plan record is emptied, a scheduler left running is idled, sensing
becomes the outage logger and catches up, a scan is due (R71, R83, R130, R132, R159). The catch-up deals with the door, then the
drum, then the thermistor, as R71 lists them; no rule orders them (DESIGN CHOICE, log 39). -/
def startEvaluation (s : State) : State :=
  let s1 := idleSched { s with
    handover := { s.handover with state := .evaluating, late := false }
    plan := none
    engine.scanDue := true }
  catchUpTemp (catchUpQuad (catchUpDoor s1))

end Sys2Proof.Machine
end

