-- ==== Sys2Proof/Machine/Watch.lean ====
section
/-! DEFINITION. The retention sequencer's acts (spec/06_outage_watch.md): entering and leaving the watch, the sample, flushing. -/

namespace Sys2Proof.Machine

/-- The sample interval in milliseconds (R92). -/
def Sequencer.interval (q : Sequencer) : Nat := q.base * 1000 / 2 ^ q.pace

/-- The floor in use: the low level less 100 mV where the floor read is not below the low level (R91). -/
def floorInUse (low floor : Nat) : Nat := if low ≤ floor then low - 100 else floor

/-- The sequencer on entry to WATCH (R91). -/
def Sequencer.watching (q : Sequencer) (base low floor : Nat) (backupLow : Bool) : Sequencer :=
  let q1 := { q with
    state := .watch, base := base, low := low, floor := floorInUse low floor, pace := if backupLow then 1 else 3,
    quiet := 0, sampleFault := false, doorRem := 0, burst := none }
  { q1 with toSample := q1.interval }

/-- The sequencer enters WATCH from DORMANT; in any other state nothing changes (R91). -/
def watchEntry (s : State) : State :=
  if s.seq.state = .dormant then
    { s with seq := s.seq.watching (s.settings.cfg 4) (s.settings.cfg 5) (s.settings.cfg 6) s.outage.summary.backupLow }
  else s

/-- The sequencer's open burst closes with its DRUM_MOVE item (R94, R98, R99). -/
def closeSeqBurst (s : State) : State :=
  match s.seq.burst with
  | none => s
  | some n => appendItem .drumMove (some n) { s with seq.burst := none }

/-- What a mains qualification does to the sequencer (R98). -/
def watchExit (s : State) : State :=
  match s.seq.state with
  | .watch =>
    let s1 := appendItem .mainsReturn none (closeSeqBurst s)
    { s1 with seq := { s1.seq with state := .dormant, pace := 0, quiet := 0 } }
  | .dormant => appendItem .mainsReturn none s
  | .flushing =>
    let s1 := appendItem .mainsReturn none s
    { s1 with seq := { s1.seq with returnSeen := true } }
  | .spent =>
    let s1 := appendItem .mainsReturn none s
    { s1 with seq := { s1.seq with state := .dormant, pace := 0, quiet := 0 } }

/-! ### The sample (R92 to R97) -/

/-- The door reading is a change (R93). -/
def sampleDoorChange (r : Refs) (d : Door) : Bool := r.door.isSome && r.door != some d

/-- The quadrature reading against its reference (R94); an absent reference finds nothing. -/
def sampleMove (r : Refs) (q : Quad) : Option QuadMove := r.quad.map fun a => quadMove a q

/-- The sequencer's burst closes at a reading that is equal or opposite (R94). -/
def sampleBurst (m : Option QuadMove) (s : State) : State :=
  match m with
  | some .same | some .opposite => closeSeqBurst s
  | some (.step _) | none => s

/-- The door's part of a sample (R93): item and finding for a change, the reference, and the door-open seconds of the interval
that preceded the sample. -/
def sampleDoor (d : Door) (interval : Nat) (s : State) : State :=
  let s1 := if sampleDoorChange s.refs d then
      appendItem (if d = .opened then .doorOpen else .doorClose) none
        { s with outage.summary.doorOpened := s.outage.summary.doorOpened || d == .opened }
    else s
  let s2 := { s1 with refs.door := some d }
  if d = .opened then
    { s2 with
      seq.doorRem := (s2.seq.doorRem + interval) % 1000
      outage.summary.doorOpenSec :=
        min 65535 (s2.outage.summary.doorOpenSec + (s2.seq.doorRem + interval) / 1000) }
  else s2

/-- The drum's part of a sample (R94), after the burst has been dealt with. -/
def sampleQuad (m : Option QuadMove) (q : Quad) (s : State) : State :=
  let s1 :=
    match m with
    | some (.step d) =>
      { s with seq.burst := burstStep s.seq.burst, outage.summary := s.outage.summary.addStep d }
    | some .opposite =>
      appendItem .motionUncertain none { s with outage.summary := s.outage.summary.addAmbiguous }
    | some .same | none => s
  { s1 with refs.quad := some q }

/-- The temperature differs from a present reference by 3 °C or more (R95). -/
def tempChange (ref : Option Int) (t : Int) : Bool :=
  match ref with
  | none => false
  | some r => decide (3 ≤ (t - r).natAbs)

/-- The thermistor's part of a sample (R95). -/
def sampleTherm (code : BitVec 10) (s : State) : State :=
  if codeValid code then
    let t := temperatureOf s.settings.temp code
    { s with seq.sampleFault := false, refs.temp := some t, outage.summary.lastTemp := some t }
  else if s.seq.sampleFault then s
  else appendItem .sensorFault none { s with seq.sampleFault := true }

/-- A sample finds a temperature change (R95). -/
def sampleTempChange (code : BitVec 10) (s : State) : Bool :=
  codeValid code && tempChange s.refs.temp (temperatureOf s.settings.temp code)

/-- The backup supply's part of a sample (R96). -/
def sampleVbk (mv : Nat) (s : State) : State :=
  let s1 := { s with seq.lastVbk := some mv }
  if mv < s.seq.low ∧ s.outage.summary.backupLow = false then
    appendItem .backupLow none { s1 with outage.summary.backupLow := true }
  else s1

/-- The pace and the quiet count a sample leaves (R97). -/
def settledPace (pace quiet : Nat) (moved warmed backupLow : Bool) : Nat × Nat :=
  let p : Nat × Nat :=
    if moved then (3, 0)
    else if warmed then (min 3 (pace + 1), 0)
    else if quiet = 3 then (pace - 1, 0)
    else (pace, quiet + 1)
  (if backupLow then min 1 p.1 else p.1, p.2)

/-- FLUSHING is entered (R99): the burst closes, the timer stops with the state, a KNOWN quality becomes LOWER_BOUND, the flush
falls due, on the backup path while the main domain is absent (R51). -/
def enterFlushing (s : State) : State :=
  let s1 := closeSeqBurst s
  let m := { s1.outage.summary with
    quality := if s1.outage.summary.quality = .known then .lowerBound else s1.outage.summary.quality }
  { s1 with
    outage.summary := m
    seq := { s1.seq with
      state := .flushing, flushCopy := some { m with flushed := true }, backupFlush := !s1.mainRunning } }

/-- A sample settles the pace and schedules the next one (R92, R97). -/
def settlePace (moved warmed : Bool) (s : State) : State :=
  let p := settledPace s.seq.pace s.seq.quiet moved warmed s.outage.summary.backupLow
  let q := { s.seq with pace := p.1, quiet := p.2 }
  { s with seq := { q with toSample := q.interval } }

/-- A move that the pace counts: a step or an ambiguous step (R94). -/
def QuadMove.isMove : QuadMove → Bool
  | .same => false
  | .step _ | .opposite => true

/-- The sequencer takes a sample (R92 to R97); items in the order of R101. -/
def takeSample (d : Door) (q : Quad) (code : BitVec 10) (vbkMv : Nat) (s : State) : State :=
  let m := sampleMove s.refs q
  let moved := sampleDoorChange s.refs d || (m.map QuadMove.isMove).getD false
  let warmed := sampleTempChange code s
  let mv := measuredMv vbkMv
  let s1 := sampleDoor d s.seq.interval (sampleBurst m s)
  let s2 := sampleVbk mv (sampleTherm code (sampleQuad m q s1))
  let s3 := settlePace moved warmed s2
  if mv < s.seq.floor then enterFlushing s3 else s3

/-- The flush in progress ends (R99). -/
def endFlush (s : State) : State :=
  match s.seq.flushCopy with
  | none => s
  | some c =>
    { s with
      flushedCopy := c
      outage.summary.flushed := true
      engine.work := if s.engine.work = .flush then .idle else s.engine.work
      seq := { s.seq with
        state := if s.seq.returnSeen then .dormant else .spent, returnSeen := false, flushCopy := none,
        backupFlush := false } }

/-- A flush is being written, by the engine or on the backup path (R51). -/
def State.flushRuns (s : State) : Bool :=
  s.seq.flushCopy.isSome && (s.seq.backupFlush || s.engine.work == .flush)

end Sys2Proof.Machine
end

