-- ==== Sys2Proof/Machine/Supply.lean ====
section
/-! DEFINITION. The supply's acts (spec/05_mains_supervision_and_the_loss_sequence.md): opening a chain, the loss sequence, the last
gasp, returns, and the starts and ends of the two domains. -/

namespace Sys2Proof.Machine

/-! ### Chains (R79) -/

/-- A chain is opened (R79, R103). -/
def openChain (how : OpenedBy) (key : Option Word) (s : State) : State :=
  { s with
    outage := { s.outage with
      chainOpen := true, openedBy := how, resetSeen := how == .reset, keyFromScan := how != .loss, partMs := 0, log := [],
      summary := { Summary.opening (if how = .cold then .unknown else .known) with matchKey := key } } }

/-! ### The loss sequence (R78) -/

/-- Step 2: a hand-over that is not CLOSED gives up, and the record and tallies become unbuilt (R17, R36, R143). -/
def lossToHandOver (s : State) : State :=
  if s.handover.state = .closed then s
  else { s with handover := { s.handover with state := .closed, late := false }, kept := none, built := false }

/-- A scan due or in progress is abandoned (R52). -/
def abandonScan (s : State) : State :=
  { s with engine.scanDue := false, engine.work := if s.engine.work = .scanning then .idle else s.engine.work }

/-- Step 5: an open drum burst of sensing closes with its item, which reaches no offer (R63, R107). -/
def lossToBurst (s : State) : State :=
  match s.sensing.burst with
  | none => s
  | some n => appendItem .drumMove (some n) { s with sensing.burst := none }

/-- Step 7: a chain is opened and a last gasp falls due, or the repeat loss is logged (R78, R79). -/
def lossToChain (s : State) : State :=
  if s.outage.chainOpen then { appendItem .mainsLost none s with mains.lastGasp := .none }
  else { openChain .loss s.engine.curSeq s with mains.lastGasp := .due }

/-- The loss sequence (R78). -/
def loss (s : State) : State :=
  let timeout := s.settings.cfg 2 * 1000
  let s1 := { s with
    mains := { s.mains with mode := .fading, lossTimer := max s.mains.lossTimer timeout, qualPending := false }
    freeze.loss := true }
  let s3 := raiseBoth .mainsLoss (abandonScan (lossToHandOver s1))
  let s5 := lossToBurst (idleSched s3)
  let s7 := lossToChain { s5 with engine.queue := [] }
  let s8 := watchEntry s7
  { s8 with mains.window := some (s.settings.cfg 3) }

/-! ### The last gasp (R80) -/

/-- The event that ends a due last gasp: the window ends and the LASTGASP request is made (R80). -/
def makeLastGasp (s : State) : State :=
  requestLastGasp { s with mains := { s.mains with lastGasp := .requested, window := none } }

/-! ### Returns (R82 to R84) -/

/-- A return with a chain open (R83, R84). -/
def returnWithChain (s : State) : State :=
  let s1 := { s with
    mains := { s.mains with mode := .run, lastGasp := .none, window := none, qualPending := false }
    freeze := { s.freeze with loss := false, ret := true } }
  startEvaluation (watchExit s1)

/-- A qualification in WAKING (R84). -/
def qualifyWaking (s : State) : State :=
  if s.outage.chainOpen then returnWithChain s
  else { s with mains.mode := .run, engine.scanDue := true }

/-- A qualification in FADING (R82). -/
def qualifyFading (s : State) : State :=
  match s.mains.lastGasp with
  | .due => makeLastGasp { s with mains.qualPending := true }
  | .requested => { s with mains.qualPending := true }
  | .none => returnWithChain s

/-- Mains qualifies (R75). -/
def qualify (s : State) : State :=
  match s.mains.mode with
  | .waking => qualifyWaking s
  | .fading => qualifyFading s
  | .held => returnWithChain s
  | .run => s

/-- The run count an accepted pulse leaves, by its spacing in microseconds (R74). -/
def pulseCount (m : Mains) (spacing : Nat) : Nat :=
  if m.accepted && decide (spacing ≤ 13000) then min 255 (m.runCount + 1) else 1

/-- A ZCS pulse `after` microseconds later (R74, R75). -/
def pulse (after : Nat) (s : State) : State :=
  let spacing := s.mains.lossTimer + after
  if s.mains.accepted ∧ spacing < 7000 then { s with mains.lossTimer := spacing }
  else
    let n := pulseCount s.mains spacing
    let s1 := { s with mains := { s.mains with runCount := n, accepted := true, lossTimer := 0 } }
    if 8 ≤ n then qualify s1 else s1

/-- FADING ends (R81): RUN if a qualification is pending, else HELD. -/
def endFading (s : State) : State :=
  let s1 := { s with mains := { s.mains with lastGasp := .none, window := none } }
  if s.mains.qualPending then returnWithChain s1 else { s1 with mains.mode := .held }

/-! ### Ends and starts of the domains (Introduction 3.2, R43, R85 to R87) -/

/-- One field of a body cut in step 2: the new value where the mark says it had been written, else what the slot held. -/
def cutField {α : Type} (m : BitVec 17) (i : Nat) (new old : α) : α := if m.getLsbD i then new else old

/-- A body cut in step 2: part new, part what the slot held before (R43, R57; log 10). -/
def cutBody (m : BitVec 17) (new old : Snapshot) : Snapshot where
  programme := cutField m 1 new.programme old.programme
  options := cutField m 2 new.options old.options
  runReq := cutField m 3 new.runReq old.runReq
  phase := cutField m 4 new.phase old.phase
  deficit := cutField m 5 new.deficit old.deficit
  phaseClock := cutField m 6 new.phaseClock old.phaseClock
  temp := cutField m 7 new.temp old.temp
  tallies := Vector.ofFn fun i => cutField m (8 + i.val) new.tallies[i] old.tallies[i]
  nextDir := cutField m 14 new.nextDir old.nextDir
  pulsesDone := cutField m 15 new.pulsesDone old.pulsesDone
  missed := cutField m 16 new.missed old.missed

/-- A slot whose write is cut (Table 3-3): in step 1 the header lacks the open mark; in step 2 the header is whole and the body
part new; in step 3 the body is new and the commit mark still the earlier one. -/
def cutSlot (cut : CutStep) (m : BitVec 17) (n : Word) (o : Origin) (snap : Snapshot) (old : Slot) : Slot :=
  match cut with
  | .header => { old with blank := false, openMark := false }
  | .body =>
    { old with blank := false, openMark := true, seqNo := n, check := ~~~n, origin := cutField m 0 o old.origin,
               body := cutBody m snap old.body }
  | .commit => { old with blank := false, openMark := true, seqNo := n, check := ~~~n, origin := o, body := snap }

/-- A slot whose write has ended (R37, R40). -/
def committedSlot (n : Word) (o : Origin) (snap : Snapshot) : Slot where
  blank := false
  openMark := true
  seqNo := n
  check := ~~~n
  origin := o
  body := snap
  commit := some n

/-- The write in progress is cut by a VDD collapse or an RSTN assertion (R43, R50); a flush due or in progress goes on along the
backup path (R51, R85, Table 6-8). -/
def cutWrite (cut : CutStep) (s : State) : State :=
  let s1 :=
    match s.engine.work with
    | .entry pos n o snap =>
      { s with
        journal := s.journal.set pos (cutSlot cut (Config.freeBodyPart s.freeCount) n o snap s.journal[pos])
        freeCount := s.freeCount + 1 }
    | _ => s
  { s1 with seq.backupFlush := s.seq.flushCopy.isSome }

/-- Everything the main domain holds is lost; the values a start gives stand for it until then (R85, R86; log 22). -/
def clearMain (s : State) : State :=
  { s with
    panelPort := PortState.start
    drivePort := PortState.start
    panelAlerts := Alerts.start
    driveAlerts := Alerts.start
    lpr := Lpr.start
    built := false
    freeze := Freeze.start
    tallies := talliesStart s.settings
    preloaded := none
    engine := Engine.start
    storeFault := false
    sensing := Sensing.start
    mains := Mains.start
    plan := none
    kept := none
    handover := HandOver.start
    sched := Sched.start }

/-- Everything the backup domain holds is lost, or started from nothing (R89, R106, Table 6-8). -/
def freshBackup (s : State) : State :=
  { s with seq := Sequencer.start, refs := Refs.start, outage := Outage.start }

/-- A main-domain start: every main-domain state at its start value, VBK measured, and a COLD chain where the fresh flag is set
and no chain is open (R70, R77, R87). -/
def mainStart (vbkMv : Nat) (s : State) : State :=
  let s1 := clearMain s
  let s2 := { s1 with sensing := { s1.sensing with backupMv := some (measuredMv vbkMv) } }
  if s2.outage.fresh && !s2.outage.chainOpen then openChain .cold none s2 else s2

/-- VDD collapses (R85, R91). -/
def collapse (cut : CutStep) (s : State) : State :=
  let s1 := clearMain (if s.mainRunning then cutWrite cut s else s)
  let s2 := { s1 with vdd := false, rstn := false }
  if s2.outage.chainOpen then watchEntry s2 else s2

/-- RSTN is asserted with VDD present (R86). -/
def assertReset (cut : CutStep) (s : State) : State :=
  let s1 := { clearMain (cutWrite cut s) with rstn := true }
  if s1.outage.chainOpen then { s1 with outage.resetSeen := true } else openChain .reset none s1

end Sys2Proof.Machine
end

