-- ==== Sys2Proof/Machine/Store.lean ====
section
/-! DEFINITION. The ends of the store engine's work (spec/03_checkpoint_journal_and_store_engine.md, spec/12_settings_store.md): the
commit of an entry, the completion of a settings write, the end of a scan. -/

namespace Sys2Proof.Machine

/-! ### The scan (R53 to R55) -/

/-- The slot satisfying `f` whose sequence number is later than that of every other slot satisfying `f` (R53, R54). -/
def latestSlot (f : Slot → Bool) (j : Vector Slot 16) : Option (Fin 16) :=
  (List.finRange 16).find? fun i =>
    f j[i] && (List.finRange 16).all fun k => k == i || !f j[k] || later j[k].seqNo j[i].seqNo

/-- The newest entry's slot (R53). -/
def newestSlot (j : Vector Slot 16) : Option (Fin 16) := latestSlot Slot.validHeader j

/-- The newest complete entry E (R54). -/
def newestComplete (j : Vector Slot 16) : Option Entry :=
  (latestSlot (fun sl => sl.state == .complete) j).map fun i => ⟨j[i].seqNo, j[i].body⟩

/-- The torn-skipped count (R54). -/
def tornCount (j : Vector Slot 16) : Nat :=
  let e := newestComplete j
  min 15 ((List.finRange 16).countP fun i =>
    j[i].state == .opened && (match e with | none => true | some e => later e.seqNo j[i].seqNo))

/-- What the scan sets in the engine (R53, R54). -/
def scanEngine (j : Vector Slot 16) (e : Engine) : Engine :=
  { e with
    work := .idle
    curSeq := (newestSlot j).map fun i => j[i].seqNo
    writePos := some ((newestSlot j).map (· + 1) |>.getD 0)
    torn := tornCount j }

/-- The first scan hands the chain its match key (R55). -/
def keyAtScan (newest : Option Word) (s : State) : State :=
  if s.outage.chainOpen && s.outage.keyFromScan then
    { s with outage := { s.outage with keyFromScan := false, summary := { s.outage.summary with matchKey := newest } } }
  else s

/-- The counter moves on where the evaluation shows the open class (log 11). -/
def countOpenClass (k : Kept) (q : Quality) (n : Nat) : Nat := if k.entry.isNone && q == .known then n + 1 else n

/-- The evaluation of a scan that has ended (R105, R111, R132). -/
def evaluate (k : Kept) (s : State) : State :=
  let s1 := adoption k.newest s
  let s2 := endEvaluation k s1
  { s2 with freeCount := countOpenClass k s1.outage.summary.quality s.freeCount }

/-- The build a scan without an evaluation makes (R84, R26). -/
def buildWithoutChain (e : Option Entry) (s : State) : State :=
  let s1 := build e s
  { s1 with freeze.ret := false }

/-- The scan ends (R54). -/
def scanEnds (s : State) : State :=
  let e := newestComplete s.journal
  let s1 := { s with engine := scanEngine s.journal s.engine }
  let newest := s1.engine.curSeq
  let s2 := if 1 ≤ s1.engine.torn then raiseBoth .tornFound s1 else s1
  let s3 := keyAtScan newest s2
  if s.handover.state = .evaluating then evaluate ⟨e, newest, s1.engine.torn⟩ s3 else buildWithoutChain e s3

/-! ### Commit (R42) -/

/-- CHECKPOINT_DONE goes to the requesting port, or to both (R42). -/
def raiseDone (o : Origin) (s : State) : State :=
  match o with
  | .panel => raiseOn .checkpointDone .panel s
  | .drive => raiseOn .checkpointDone .drive s
  | _ => raiseBoth .checkpointDone s

/-- The commit is handed to the engine's neighbours (R42): NOTIFY for TALLY (R27), the end of FADING for LASTGASP (R81). -/
def commitEffects (o : Origin) (s : State) : State :=
  match o with
  | .tally => { s with freeze.notify := false }
  | .lastgasp =>
    if s.mains.mode = .fading then endFading s else { s with mains.lastGasp := .none }
  | _ => s

/-- An entry commits (R42). -/
def commit (pos : Fin 16) (n : Word) (o : Origin) (snap : Snapshot) (s : State) : State :=
  let s1 := { s with journal := s.journal.set pos (committedSlot n o snap), engine.work := .idle }
  commitEffects o (raiseDone o s1)

/-! ### Completion of a settings write (R185) -/

/-- For a TALLY_CTL write the working field takes the value read back, and the edge memory becomes not held (R33, R185). -/
def workingField (it : Item) (w : Word) (s : State) : State :=
  match it with
  | .tallyCtl t f =>
    { s with tallies := s.tallies.set t { s.tallies[t] with ctl := s.tallies[t].ctl.set f w, edgeMem := false } }
  | _ => s

/-- A settings write ends (R50, R185). -/
def settingsEnds (p : Port) (it : Item) (written readBack : Word) (s : State) : State :=
  let s1 := workingField it readBack { s with settings := s.settings.put it readBack, engine.work := .idle }
  raiseOn .settingsWritten p { s1 with storeFault := s.storeFault || readBack != written }

end Sys2Proof.Machine
end

