-- ==== Sys2Proof/Machine/Reads.lean ====
section
/-! DEFINITION. What a READ of each object answers (R2, R28, R33, R56, R57, R72, R109, R129, R161, R169, R180, R183): a result and
data. No read changes a state, but for the port's tally read latch (R29). -/

namespace Sys2Proof.Machine

/-- A result and the data of an answer. -/
abbrev Read := Result × Word

/-- A taken read of an unsigned value. -/
def readNat (n : Nat) : Read := (.ok, wordOf n)

/-- A taken read of a signed value. -/
def readInt (z : Int) : Read := (.ok, wordOfInt z)

/-- A taken read of a mark. -/
def readBool (b : Bool) : Read := (.ok, wordOfBool b)

/-- A read that is answered with result `r` and data 0 (R178). -/
def readNone (r : Result) : Read := (r, 0)

/-- A read of a value that may be missing, answered `r` while it is. -/
def readOr {α : Type} (r : Result) (f : α → Read) : Option α → Read
  | some a => f a
  | none => readNone r

/-- LIVE (R2, Table 1-2). -/
def readLive (s : State) (i : Nat) : Read :=
  if 7 < i then readNone .badIndex
  else if s.built then
    match i with
    | 0 => readNat s.lpr.programme.val
    | 1 => readNat s.lpr.options.code
    | 2 => readNat s.lpr.runReq.code
    | 3 => readNat s.lpr.phase.code
    | 4 => readNat s.lpr.deficit
    | 5 => readNat s.lpr.phaseClock
    | 6 => readInt s.lpr.temp
    | _ => readOr .busy (fun d : Door => readNat d.code) s.sensing.door
  else readNone .busy

/-- A tally's value at a journal body (R56 fields 10, 11). -/
def readBodyTally (b : Snapshot) (t : Nat) (f : Nat → Nat) : Read :=
  if h : t < 6 then readNat (f b.tallies[t]) else readNone .badValue

/-- Fields 1 to 14 of a slot (Table 3-4). -/
def readSlotField (sl : Slot) (field : Nat) (data : Word) : Read :=
  match field with
  | 1 => (.ok, sl.seqNo)
  | 2 => readNat sl.origin.code
  | 3 => readNat sl.body.programme.val
  | 4 => readNat sl.body.options.code
  | 5 => readNat sl.body.runReq.code
  | 6 => readNat sl.body.phase.code
  | 7 => readNat sl.body.deficit
  | 8 => readNat sl.body.phaseClock
  | 9 => readInt sl.body.temp
  | 10 => readBodyTally sl.body data.toNat (· % 65536)
  | 11 => readBodyTally sl.body data.toNat (· / 65536)
  | 12 => readNat sl.body.nextDir.code
  | 13 => readNat sl.body.pulsesDone
  | _ => readNat sl.body.missed

/-- The slot at an age counted back from the write position (R56). -/
def slotAtAge (pos : Fin 16) (age : Fin 16) : Fin 16 := pos - 1 - age

/-- JOURNAL (R56, R57). -/
def readJournal (s : State) (idx : Index) (data : Word) : Read :=
  let field := idx.toNat % 16
  match s.engine.writePos with
  | none => readNone .busy
  | some pos =>
    if s.engine.work ≠ .idle then readNone .busy
    else if (field = 10 ∨ field = 11) ∧ 5 < data.toNat then readNone .badValue
    else
      let k := slotAtAge pos (Fin.ofNat 16 (idx.toNat / 16))
      let sl := s.journal[k]
      match field with
      | 0 => readNat sl.state.code
      | 15 => readNat k.val
      | _ => if sl.validHeader then readSlotField sl field data else readNone .wrongState

/-- The tally part an index names (Table 2-3). -/
inductive TallyPart where
  | low (t : Fin 6)
  | high (t : Fin 6)
  | flag (t : Fin 6)
  | freezeSet
  | none
deriving DecidableEq, Repr

/-- Table 2-3. -/
def tallyPart (i : Nat) : TallyPart :=
  if h : i / 4 < 6 then
    match i % 4 with
    | 0 => .low ⟨i / 4, h⟩
    | 1 => .high ⟨i / 4, h⟩
    | 2 => .flag ⟨i / 4, h⟩
    | _ => .none
  else if i = 24 then .freezeSet
  else .none

/-- The high part a READ answers: the latched byte where the latch holds that tally, else the live one (R29). -/
def highByte (q : PortState) (t : Fin 6) (live : Nat) : Nat :=
  match q.latch with
  | some (u, b) => if u = t then b else live
  | none => live

/-- The latch after a READ of a tally's high part (R29). -/
def latchAfterHigh (q : PortState) (t : Fin 6) : Option (Fin 6 × Nat) :=
  match q.latch with
  | some (u, b) => if u = t then none else some (u, b)
  | none => none

/-- TALLY: the answer (R28, R29). -/
def readTally (s : State) (p : Port) (part : TallyPart) : Read :=
  match part with
  | .low t => if s.built then readNat (s.tallies[t].value % 65536) else readNone .busy
  | .high t => if s.built then readNat (highByte (s.port p) t (s.tallies[t].value / 65536)) else readNone .busy
  | .flag t => if s.built then readBool s.tallies[t].overflow else readNone .busy
  | .freezeSet => readNat s.freeze.code
  | .none => readNone .badIndex

/-- TALLY: the issuing port's latch after the read (R29). -/
def latchAfterRead (s : State) (p : Port) (part : TallyPart) : Option (Fin 6 × Nat) :=
  if s.built then
    match part with
    | .low t => some (t, s.tallies[t].value / 65536)
    | .high t => latchAfterHigh (s.port p) t
    | _ => (s.port p).latch
  else (s.port p).latch

/-- The field of TALLY_CTL an index names (R33). -/
def ctlField (i : Nat) : Option (Fin 6 × Fin 6) :=
  if h : i / 8 < 6 ∧ i % 8 < 6 then some (⟨i / 8, h.1⟩, ⟨i % 8, h.2⟩) else none

/-- TALLY_CTL (R33). -/
def readTallyCtl (s : State) (i : Nat) : Read :=
  readOr .badIndex (fun x : Fin 6 × Fin 6 => (.ok, s.tallies[x.1].ctl[x.2])) (ctlField i)

/-- OUTLOG (R109). -/
def readOutlog (s : State) (i : Nat) : Read :=
  if i = 96 then readNat s.outage.log.length
  else if 96 < i ∨ i % 4 = 3 then readNone .badIndex
  else
    match s.outage.log[i / 4]? with
    | none => readNone .wrongState
    | some it =>
      match i % 4 with
      | 0 => readNat it.kind.code
      | 1 => readNat it.time
      | _ => readOr .wrongState readNat it.amount

/-- Fields 0 to 11 of a summary (Table 6-7). -/
def readSummary (m : Summary) (i : Nat) : Read :=
  match i with
  | 0 => readNat m.duration
  | 1 => readNat m.quality.code
  | 2 => readBool m.doorOpened
  | 3 => readNat m.doorOpenSec
  | 4 => readNat m.quarters
  | 5 => readInt m.net
  | 6 => readBool m.uncertain
  | 7 => readOr .wrongState readInt m.lastTemp
  | 8 => readBool m.backupLow
  | 9 => readNat m.itemsLost
  | 10 => readOr .wrongState (fun w : Word => (.ok, w)) m.matchKey
  | _ => readBool m.flushed

/-- OUTSUM (R109, Table 6-7). Opened-by and reset-seen are WRONG_STATE while no chain is open, as Table 6-7 gives, although R108
calls them readable after a close (DEDUCED, log 36). -/
def readOutsum (s : State) (i : Nat) : Read :=
  if i ≤ 11 then readSummary s.outage.summary i
  else if 32 ≤ i ∧ i ≤ 43 then readSummary s.flushedCopy (i - 32)
  else
    match i with
    | 12 => readBool s.outage.chainOpen
    | 13 => if s.outage.chainOpen then readNat s.outage.openedBy.code else readNone .wrongState
    | 14 => if s.outage.chainOpen then readBool s.outage.resetSeen else readNone .wrongState
    | 15 => readNat s.seq.state.code
    | 16 => readNat s.seq.pace
    | 17 => readOr .wrongState readNat s.seq.lastVbk
    | 18 => readBool s.outage.fresh
    | _ => readNone .badIndex

/-- The fields of the plan record (Table 7-7). -/
def readPlanField (p : Plan) (i : Nat) : Read :=
  match i with
  | 0 => readNat p.verdict.code
  | 1 => readNat p.reasons.toNat
  | 2 => readNat p.target.code
  | 3 => readNat p.cls.code
  | 4 => readNat p.tOut
  | 5 => readNat p.dPrime
  | 6 => readNat p.rawHeat
  | 7 => readNat p.credit
  | 8 => readNat p.heatSec
  | 9 => readNat p.coolSec
  | 10 => readNat p.elapsed
  | 11 => readNat p.windowRem
  | 12 => readNat p.offset
  | 13 => readNat p.recovery
  | 14 => readNat p.nextDir.code
  | 15 => readNat p.programme.val
  | 16 => readNat p.options.code
  | 17 => readOr .wrongState (fun w : Word => (.ok, w)) p.sourceSeq
  | 18 => readNat p.evalCount
  | _ => readOr .wrongState readInt p.tRet

/-- PLAN (R129). -/
def readPlan (s : State) (i : Nat) : Read :=
  if 19 < i then readNone .badIndex
  else if s.handover.state = .evaluating then readNone .busy
  else readOr .wrongState (fun p : Plan => readPlanField p i) s.plan

/-- ACREASE (R161, Table 9-2). -/
def readAcrease (s : State) (i : Nat) : Read :=
  match i with
  | 0 => readNat s.sched.state.code
  | 1 => readNat s.sched.endReason.code
  | 2 => readNat (if s.sched.state.timed then (s.sched.remaining + 999) / 1000 else 0)
  | 3 => readBool s.suspended
  | 4 => readNat s.sched.nextDir.code
  | 5 => if s.sched.state.tmb then readNat s.sched.pulseDir.code else readNone .wrongState
  | 6 => readNat s.sched.pulsesDone
  | 7 => readNat s.sched.missed
  | 8 => readNat s.sched.windowEnd
  | 9 => readNat s.sched.period
  | 10 => readNat s.sched.tumbleLen
  | 11 => readBool s.tmb
  | _ => readNone .badIndex

/-- The source whose level an ALERT_CTL index names on a port (Table 10-2): 1 to 12, and not 7 on the Panel Port. -/
def levelSource (p : Port) (i : Nat) : Option (Fin 13) :=
  if h : i < 13 then if i = 0 ∨ (i = 7 ∧ p = .panel) then none else some ⟨i, h⟩ else none

/-- ALERT_CTL (R169, Table 10-2). -/
def readAlertCtl (s : State) (p : Port) (i : Nat) : Read :=
  let a := s.alerts p
  match i with
  | 16 => readNat a.mask
  | 17 => readNat (sourceSum a.has)
  | 18 => readNat (sourceSum a.presentable)
  | 19 => readBool a.line
  | 20 => readBool a.taken
  | _ => readOr .badIndex (fun x : Fin 13 => readNat a.levels[x]) (levelSource p i)

/-- The item a PROFILE, TEMP_TABLE or CONFIG index names, for a programme (R183). -/
def settingsItem (cls : Nat) (prog : Fin 16) (i : Nat) : Option Item :=
  if cls = 9 then if h : i < 18 then some (.profile prog ⟨i, h⟩) else none
  else if cls = 10 then if h : i < 18 then some (.temp ⟨i, h⟩) else none
  else if h : i < 8 then some (.config ⟨i, h⟩) else none

/-- PROFILE (R183): the data names the programme. An index above 17 is refused before a programme above 15: the order is not stated
(DESIGN CHOICE, log 38). -/
def readProfile (s : State) (i : Nat) (data : Word) : Read :=
  if i < 18 then
    if h : data.toNat < 16 then
      readOr .badIndex (fun it => (.ok, s.settings.get it)) (settingsItem 9 ⟨data.toNat, h⟩ i)
    else readNone .badValue
  else readNone .badIndex

/-- TEMP_TABLE and CONFIG (R183). -/
def readStored (s : State) (cls i : Nat) : Read :=
  readOr .badIndex (fun it => (.ok, s.settings.get it)) (settingsItem cls 0 i)

/-- STATUS (R180, Table 11-7). -/
def readStatus (s : State) (i : Nat) : Read :=
  match i with
  | 0 => readNat s.mains.mode.code
  | 1 => readNat s.seq.state.code
  | 2 => readNat s.seq.pace
  | 3 => readNat s.handover.state.code
  | 4 => readBool (s.engine.work != .idle)
  | 5 =>
    match s.engine.work with
    | .idle => readNat 0
    | .scanning => readNat 1
    | .entry .. => readNat 2
    | .settings .. => readNat 3
    | .flush => readNat 4
  | 6 => readNat s.engine.queue.length
  | 7 => readBool s.outage.fresh
  | 8 => readBool s.outage.chainOpen
  | 9 => readBool s.storeFault
  | 10 => readNat s.engine.torn
  | 11 => readBool (!s.panelPort.synced)
  | 12 => readBool (!s.drivePort.synced)
  | 13 => readBool s.lpr.stale
  | 14 => readBool s.handover.overLimit
  | 15 => readBool s.hpm
  | 16 => readBool s.built
  | 17 => readBool (s.settingsPending .panel)
  | 18 => readBool (s.settingsPending .drive)
  | 19 => readNat s.mains.lastGasp.code
  | 20 => readBool s.mains.qualPending
  | _ => readNone .badIndex

/-- SENSORS (R72, Table 4-6). -/
def readSensors (s : State) (i : Nat) : Read :=
  let v := s.sensing
  match i with
  | 0 => readOr .busy (fun d : Door => readNat d.code) v.door
  | 1 => readOr .busy (fun q : Quad => readNat (quadCode q)) v.quad
  | 2 => readInt v.acc
  | 3 => readNat ((v.prevDir.map Dir.code).getD 2)
  | 4 => readNat v.quadFaults
  | 5 => readBool v.htsLatest
  | 6 => readNat v.episode.code
  | 7 => readOr .busy (fun c : BitVec 10 => readNat c.toNat) v.convCode
  | 8 => if v.convCode.isSome then readBool v.fault else readNone .busy
  | 9 => readOr .busy readInt v.lastTemp
  | 10 => readOr .busy readNat v.backupMv
  | _ => readNone .badIndex

/-- The answer of a READ of an object (R178 check 2, Table 11-4, Table 11-6). -/
def readObject (s : State) (p : Port) (cls : Code) (idx : Index) (data : Word) : Read :=
  match cls.toNat with
  | 0 => readLive s idx.toNat
  | 1 => readJournal s idx data
  | 2 => readTally s p (tallyPart idx.toNat)
  | 3 => readTallyCtl s idx.toNat
  | 4 => readOutlog s idx.toNat
  | 5 => readOutsum s idx.toNat
  | 6 => readPlan s idx.toNat
  | 7 => readAcrease s idx.toNat
  | 8 => readAlertCtl s p idx.toNat
  | 9 => readProfile s idx.toNat data
  | 10 => readStored s 10 idx.toNat
  | 11 => readStored s 11 idx.toNat
  | 12 => readStatus s idx.toNat
  | 13 => readSensors s idx.toNat
  | _ => readNone .badObject

/-- The state after a READ: only a read of a tally part moves the issuing port's latch (R28, R29). -/
def afterRead (s : State) (p : Port) (cls : Code) (idx : Index) : State :=
  if cls = 2 then
    s.setPort p { s.port p with latch := latchAfterRead s p (tallyPart idx.toNat) }
  else s

end Sys2Proof.Machine
end

