-- ==== Sys2Proof/Machine/Link.lean ====
section
/-! DEFINITION. The frame ports as a link (spec/11_frame_ports.md R171 to R177): what becomes of a completed frame, of a
discarded one, and how an answer is loaded. A frame is one event (log 21). -/

namespace Sys2Proof.Machine

/-- What the block that owns a frame gives back: the state it leaves, the result and the data of the answer (R176). -/
structure Reply where
  st : State
  result : Result
  data : Word
deriving DecidableEq, Repr

/-- An answer of result `r` and data `d` that leaves the state as it is. -/
def answered (r : Result) (d : Word) (s : State) : Reply := ⟨s, r, d⟩

/-- A refusal whose rule gives no response data: data 0 (R178). -/
def refusedPlain (r : Result) (s : State) : Reply := ⟨s, r, 0⟩

/-- A free value as response data; the counter moves on (log 9). -/
def answeredFree (r : Result) (s : State) : Reply :=
  ⟨{ s with freeCount := s.freeCount + 1 }, r, Config.freeData s.freeCount⟩

/-- Result OK or CLAMPED. -/
def Result.takes : Result → Bool
  | .ok | .clamped => true
  | _ => false

/-- A frame whose taking queues a store request: CHECKPOINT, and a WRITE to TALLY_CTL, PROFILE, TEMP_TABLE or CONFIG
(Table 11-1). -/
def queues (cmd cls : Code) : Bool :=
  cmd == 3 || (cmd == 2 && (cls == 3 || cls == 9 || cls == 10 || cls == 11))

/-- The acknowledgement of an answer (Table 11-1). -/
def ackOf (cmd cls : Code) (r : Result) : Ack :=
  if r.takes then (if queues cmd cls then .queued else .taken) else .refused

/-- The acknowledge pulse length N (Table 11-1). -/
def Ack.clocks : Ack → Nat
  | .taken => 1
  | .queued => 2
  | .refused => 3
  | .resync => 6

/-- The data code of a result (Table 11-5). -/
def Result.code : Result → Nat
  | .ok => 0
  | .clamped => 1
  | .notOwner => 2
  | .badObject => 3
  | .badIndex => 4
  | .badValue => 5
  | .wrongState => 6
  | .busy => 7
  | .locked => 8

/-- The 32 bits of an answer frame (Table 11-2). -/
def Answer.frame (a : Answer) : Frame := frameOf a.echo (BitVec.ofNat 4 a.result.code) a.idx a.data

/-- The bits that the data output gives during a port's next frame: the waiting answer, or all ones where there is none
(R174, R176). -/
def PortState.output (q : PortState) : Frame :=
  match q.resp with
  | some a => a.frame
  | none => allOnesFrame

/-- The number of clocks for which the acknowledge output opens the port's next frame low (Table 11-1); 0 is no pulse. -/
def PortState.pulse (q : PortState) : Nat :=
  match q.resp with
  | some a => a.ack.clocks
  | none => 0

/-- The answer to the frame `w` (R176, R177). -/
def answerFor (w : Frame) (r : Result) (d : Word) : Answer where
  echo := frameCmd w
  result := r
  idx := frameIndex w
  data := d
  ack := ackOf (frameCmd w) (frameClass w) r

/-- A port with an answer loaded into its response register. -/
def PortState.load (q : PortState) (a : Answer) : PortState := { q with resp := some a }

/-- The all-ones mark set to `m` (R171). -/
def PortState.mark (q : PortState) (m : Bool) : PortState := { q with allOnes := m }

/-- A resynchronised port, with the ignored-frame count in its answer (R174). -/
def PortState.resync (q : PortState) : PortState where
  synced := true
  bitCounter := 0
  gapTimer := q.gapTimer
  allOnes := false
  ignored := 0
  resp := some ⟨15, .ok, 255, wordOf q.ignored, .resync⟩
  latch := none
  monitor := none

/-- A frame completed while the port is DESYNCED (R174). -/
def PortState.desyncedFrame (q : PortState) (w : Frame) : PortState :=
  if w = allOnesFrame then (if q.allOnes then q.resync else q.mark true)
  else { q with ignored := min 65535 (q.ignored + if q.allOnes then 2 else 1), allOnes := false }

/-- An all-ones frame completed while the port is SYNCED (R175). -/
def PortState.syncedAllOnes (q : PortState) : PortState :=
  if q.allOnes then { q with ignored := 0 }.resync
  else (q.mark true).load (answerFor allOnesFrame .badObject 0)

/-- A gap discards a partial frame (R173). -/
def PortState.gap (q : PortState) : PortState :=
  if q.synced then { q with synced := false, bitCounter := 0, allOnes := false, ignored := 0, resp := none }
  else { q with bitCounter := 0, allOnes := false }

/-- The answer of the owning block is loaded into the port's response register (R176). -/
def loadAnswer (p : Port) (w : Frame) (r : Reply) : State :=
  r.st.setPort p ((r.st.port p).load (answerFor w r.result r.data))

/-- A frame dealt with while the port is SYNCED: a frame that is not all ones clears the mark, goes to the block `deal`, and
its answer is loaded (R175, R176). -/
def dealtFrame (p : Port) (w : Frame) (deal : State → Reply) (s : State) : State :=
  loadAnswer p w (deal (s.setPort p ((s.port p).mark false)))

/-- A 32-bit frame completed on a port, with `deal` what the routing makes of it (R174 to R176). Without the main domain the
ports are not there and nothing happens (R171; log 4). -/
def frameIn (p : Port) (w : Frame) (deal : State → Reply) (s : State) : State :=
  if s.mainRunning then
    if (s.port p).synced then
      if w = allOnesFrame then s.setPort p (s.port p).syncedAllOnes
      else dealtFrame p w deal s
    else s.setPort p ((s.port p).desyncedFrame w)
  else s

/-- The gap timer passes 200 µs with `bits` bits of a frame received (R173). With no bit received it does not run. -/
def gapIn (p : Port) (bits : Nat) (s : State) : State :=
  if s.mainRunning ∧ 1 ≤ bits ∧ bits ≤ 31 then
    let s1 := s.setPort p (s.port p).gap
    if (s.port p).synced then raiseOn .linkFault p s1 else s1
  else s

end Sys2Proof.Machine
end

