-- ==== Sys2Proof/Machine/Commands.lean ====
section
/-! DEFINITION. What the owning blocks do with each frame that the routing hands them (R178): the answers and effects of every
command and of a WRITE of every object. -/

namespace Sys2Proof.Machine

/-- The other port. -/
def otherPort : Port → Port
  | .panel => .drive
  | .drive => .panel

/-! ### NOP, READ, MONITOR (R28, R32, R179) -/

/-- NOP (R179, R32). -/
def dealNop (p : Port) (s : State) : Reply :=
  match (s.port p).monitor with
  | none => answered .ok 0 s
  | some t => if s.built then answered .ok (wordOf (s.tallies[t].value % 65536)) s else refusedPlain .busy s

/-- READ (R178 check 2 and the rules of each object). -/
def dealRead (p : Port) (cls : Code) (idx : Index) (data : Word) (s : State) : Reply :=
  let r := readObject s p cls idx data
  ⟨afterRead s p cls idx, r.1, r.2⟩

/-- The selector a MONITOR's data names (R32). -/
def monitorOf (data : Word) : Option (Option (Fin 6)) :=
  if h : data.toNat < 6 then some (some ⟨data.toNat, h⟩) else if data = 6 then some none else none

/-- MONITOR (R32); the data of a taken one's answer is not stated (log 9). -/
def dealMonitor (p : Port) (cls : Code) (data : Word) (s : State) : Reply :=
  if cls ≠ 2 then refusedPlain .badObject s
  else
    match monitorOf data with
    | some m => answeredFree .ok (s.setPort p { s.port p with monitor := m })
    | none => refusedPlain .badValue s

/-! ### LIVE (R3 to R13) -/

/-- The answer of a LIVE write carries the value the field holds afterwards (R3). -/
def liveAnswer (r : Result) (i : Nat) (s : State) : Reply := ⟨s, r, (readLive s i).2⟩

/-- Checks 2 to 4 of R3 before a write of a field of controller `owner`; `free` is the field's own state condition. An unbuilt
record holds no value that the answer could carry: free data (log 8). -/
def liveWrite (owner p : Port) (i : Nat) (free : Bool) (take : State → Reply) (s : State) : Reply :=
  if s.built = false then answeredFree .busy s
  else if p ≠ owner then liveAnswer .notOwner i s
  else if !(s.mayWrite p && free) then liveAnswer .wrongState i s
  else take s

/-- The programme (R6). -/
def takeProgramme (data : Word) (s : State) : Reply :=
  if h : data.toNat < 16 then liveAnswer .ok 0 { s with lpr.programme := ⟨data.toNat, h⟩ }
  else liveAnswer .badValue 0 s

/-- WRITE of the programme: its own condition is the phase IDLE or DONE (R3, R6). -/
def dealProgramme (p : Port) (data : Word) (s : State) : Reply :=
  liveWrite .panel p 0 (s.lpr.phase == .idle || s.lpr.phase == .done) (takeProgramme data) s

/-- The options (R7). -/
def takeOptions (data : Word) (s : State) : Reply :=
  if data.toNat ≤ 7 then liveAnswer .ok 1 { s with lpr.options := Options.ofCode data.toNat } else liveAnswer .badValue 1 s

/-- WRITE of the options (R3, R7). -/
def dealOptions (p : Port) (data : Word) (s : State) : Reply := liveWrite .panel p 1 true (takeOptions data) s

/-- A run request that is not the one held is stored; PAUSED or STOPPED suspends the scheduler (R8, R158). -/
def storeRunReq (r : RunReq) (s : State) : State :=
  if s.lpr.runReq = r then s
  else
    let s1 := { s with lpr.runReq := r }
    if r = .run then s1 else suspendSched s1

/-- CANCEL (R9): STOPPED and DONE; a phase already DONE is no change. -/
def cancelProgramme (s : State) : State :=
  if s.lpr.phase = .done then { s with lpr.runReq := .stopped } else serve (changeToDone .cancel s)

/-- The run request, CANCEL among its values (R8, R9). -/
def takeRunReq (data : Word) (s : State) : Reply :=
  if data = 3 then liveAnswer .ok 2 (cancelProgramme s)
  else
    match RunReq.ofCode data.toNat with
    | some r => liveAnswer .ok 2 (storeRunReq r s)
    | none => liveAnswer .badValue 2 s

/-- WRITE of the run request (R3, R8, R9). -/
def dealRunRequest (p : Port) (data : Word) (s : State) : Reply := liveWrite .panel p 2 true (takeRunReq data) s

/-- The transitions allowed to the drive controller (Table 1-4). -/
def transitionAllowed (old new : Phase) (r : RunReq) : Bool :=
  match old, new with
  | .idle, .heat | .done, .heat => r == .run
  | .idle, .done | .heat, .cool | .heat, .done | .cool, .anticrease | .cool, .done | .anticrease, .done => true
  | _, _ => false

/-- The phase (R10, R11). -/
def takePhase (data : Word) (s : State) : Reply :=
  match Phase.ofCode data.toNat with
  | some ph =>
    if transitionAllowed s.lpr.phase ph s.lpr.runReq then liveAnswer .ok 3 (serve (changePhase ph s))
    else liveAnswer .badValue 3 s
  | none => liveAnswer .badValue 3 s

/-- WRITE of the phase (R3, R10). -/
def dealPhase (p : Port) (data : Word) (s : State) : Reply := liveWrite .drive p 3 true (takePhase data) s

/-- The deficit (R13). -/
def takeDeficit (data : Word) (s : State) : Reply :=
  liveAnswer (if data.toNat ≤ 1000 then .ok else .clamped) 4 { s with lpr.deficit := min 1000 data.toNat }

/-- WRITE of the deficit (R3, R13). -/
def dealDeficit (p : Port) (data : Word) (s : State) : Reply := liveWrite .drive p 4 true (takeDeficit data) s

/-- WRITE of a LIVE index that no port may write (R3): fields 5 to 7, and indices above 7. A door field that no door has
reached yet (R15) holds no value that the answer could carry: free data (log 8). An index above 7 names no field: data 0 (DESIGN
CHOICE, log 41). -/
def dealLiveReadOnly (i : Nat) (s : State) : Reply :=
  if 7 < i then refusedPlain .badIndex s
  else if s.built = false then answeredFree .busy s
  else if i = 7 ∧ s.sensing.door = none then answeredFree .notOwner s
  else liveAnswer .notOwner i s

/-- WRITE of class LIVE (R3). -/
def dealWriteLive (p : Port) (i : Nat) (data : Word) (s : State) : Reply :=
  match i with
  | 0 => dealProgramme p data s
  | 1 => dealOptions p data s
  | 2 => dealRunRequest p data s
  | 3 => dealPhase p data s
  | 4 => dealDeficit p data s
  | _ => dealLiveReadOnly i s

/-! ### TALLY (R25, R30, R31) -/

/-- A tally may be moved by hand: the freeze set is not empty, or its working enable is 0 (R30 check 4). -/
def State.tallyStill (s : State) (t : Fin 6) : Bool := s.freeze.any || controlUse t 5 s.tallies[t].ctl == 0

/-- A value with its low part replaced (R30). -/
def putLow (v : Nat) (d : Nat) : Nat := v / 65536 * 65536 + d

/-- A value with its high part replaced (R30). -/
def putHigh (v : Nat) (d : Nat) : Nat := d * 65536 + v % 65536

/-- The state with a tally's value replaced. -/
def setTallyValue (t : Fin 6) (v : Nat) (s : State) : State :=
  { s with tallies := s.tallies.set t { s.tallies[t] with value := v } }

/-- A taken write of a value part (R30 check 5). -/
def takeTallyValue (t : Fin 6) (high : Bool) (data : Word) (s : State) : Reply :=
  if high then
    ⟨setTallyValue t (putHigh s.tallies[t].value (min 255 data.toNat)) s, if data.toNat ≤ 255 then .ok else .clamped,
      wordOf (min 255 data.toNat)⟩
  else ⟨setTallyValue t (putLow s.tallies[t].value data.toNat) s, .ok, data⟩

/-- WRITE of a tally's value part (R30); a refused one's data is not stated by R30 and is 0 (R178; log 18). -/
def dealTallyValue (p : Port) (t : Fin 6) (high : Bool) (data : Word) (s : State) : Reply :=
  if s.built = false then refusedPlain .busy s
  else if s.mayWrite p = false then refusedPlain .wrongState s
  else if s.tallyStill t = false then refusedPlain .wrongState s
  else takeTallyValue t high data s

/-- The state with a tally's overflow flag cleared. -/
def clearOverflow (t : Fin 6) (s : State) : State :=
  { s with tallies := s.tallies.set t { s.tallies[t] with overflow := false } }

/-- WRITE of a tally's overflow flag (R31); the data of a taken one's answer is not stated (log 9). -/
def dealOverflow (p : Port) (t : Fin 6) (data : Word) (s : State) : Reply :=
  if s.built = false then refusedPlain .busy s
  else if s.mayWrite p = false then refusedPlain .wrongState s
  else if data ≠ 0 then refusedPlain .badValue s
  else answeredFree .ok (clearOverflow t s)

/-- WRITE of class TALLY (R30, R31). -/
def dealWriteTally (p : Port) (i : Nat) (data : Word) (s : State) : Reply :=
  match tallyPart i with
  | .low t => dealTallyValue p t false data s
  | .high t => dealTallyValue p t true data s
  | .flag t => dealOverflow p t data s
  | .freezeSet => refusedPlain .notOwner s
  | .none => refusedPlain .badIndex s

/-- The issuing port's reason added (R25). -/
def Freeze.add (f : Freeze) : Port → Freeze
  | .panel => { f with panel := true }
  | .drive => { f with drive := true }

/-- The issuing port's reason and NOTIFY removed (R25). -/
def Freeze.removeBy (f : Freeze) : Port → Freeze
  | .panel => { f with panel := false, notify := false }
  | .drive => { f with drive := false, notify := false }

/-- FREEZE (R25). -/
def dealFreeze (p : Port) (cls : Code) (s : State) : Reply :=
  if cls ≠ 2 then refusedPlain .badObject s
  else answered .ok (wordOf (s.freeze.add p).code) { s with freeze := s.freeze.add p }

/-- RELEASE (R25). -/
def dealRelease (p : Port) (cls : Code) (s : State) : Reply :=
  if cls ≠ 2 then refusedPlain .badObject s
  else answered .ok (wordOf (s.freeze.removeBy p).code) { s with freeze := s.freeze.removeBy p }

/-! ### Settings writes (R33, R184) -/

/-- A value checked and held to its item's range (R184 checks 4 and 5): none is BAD_VALUE. -/
def fitValue (r : Range) (w : Word) : Option (Result × Word) :=
  match r with
  | .enum m => if w.toNat ≤ m then some (.ok, w) else none
  | .num lo hi =>
    if w.toNat < lo then some (.clamped, wordOf lo) else if hi < w.toNat then some (.clamped, wordOf hi) else some (.ok, w)
  | .temp =>
    if w.toInt < -20 then some (.clamped, wordOfInt (-20)) else if 150 < w.toInt then some (.clamped, 150) else some (.ok, w)

/-- Check 6: the table as it will stand keeps its codes strictly increasing (R184). -/
def tableFits (p : Port) (it : Item) (w : Word) (s : State) : Bool :=
  match it with
  | .temp i => tableUsable ((s.tableWithPending (otherPort p)).put (.temp i) w).temp
  | _ => true

/-- The value a settings write's answer carries: the working field for TALLY_CTL, else the stored value (R33, R184). -/
def State.shownSetting (s : State) : Item → Word
  | .tallyCtl t f => s.tallies[t].ctl[f]
  | it => s.settings.get it

/-- A settings request joins the queue at its tail (R44, R50). -/
def requestSettings (p : Port) (it : Item) (w : Word) (s : State) : State :=
  { s with engine.queue := s.engine.queue ++ [.settings p it w] }

/-- A settings write refused after check 1. A PROFILE write names its programme through the record; while that is unbuilt the
programme, and so the stored value, is not stated: free data (log 8). -/
def refusedSetting (it : Item) (r : Result) (s : State) : Reply :=
  match it with
  | .profile .. => if s.built then ⟨s, r, s.shownSetting it⟩ else answeredFree r s
  | _ => ⟨s, r, s.shownSetting it⟩

/-- A settings write of an item (R184 checks 2 to 6, R33). -/
def dealSetting (p : Port) (it : Item) (data : Word) (s : State) : Reply :=
  if s.settingsOpen = false then refusedSetting it .locked s
  else if s.settingsPending p then refusedSetting it .busy s
  else
    match fitValue (itemRange it) data with
    | none => refusedSetting it .badValue s
    | some (r, w) =>
      if tableFits p it w s then ⟨serve (requestSettings p it w s), r, s.shownSetting it⟩
      else refusedSetting it .badValue s

/-- A settings write of the item an index names; an index that names none is BAD_INDEX (R184 check 1). Such an index has no stored
value that the answer could carry, and its data is 0 (DESIGN CHOICE, log 41). -/
def dealSettingAt (p : Port) (it : Option Item) (data : Word) (s : State) : Reply :=
  match it with
  | some i => dealSetting p i data s
  | none => refusedPlain .badIndex s

/-- WRITE of class TALLY_CTL (R33). -/
def dealTallyCtl (p : Port) (i : Nat) (data : Word) (s : State) : Reply :=
  dealSettingAt p ((ctlField i).map fun x => .tallyCtl x.1 x.2) data s

/-- WRITE of class PROFILE: the programme is the record's at the taking (R183). -/
def dealProfile (p : Port) (i : Nat) (data : Word) (s : State) : Reply :=
  dealSettingAt p (settingsItem 9 s.lpr.programme i) data s

/-- WRITE of class TEMP_TABLE (R184). -/
def dealTempTable (p : Port) (i : Nat) (data : Word) (s : State) : Reply :=
  dealSettingAt p (settingsItem 10 0 i) data s

/-- WRITE of class CONFIG (R184). -/
def dealConfig (p : Port) (i : Nat) (data : Word) (s : State) : Reply :=
  dealSettingAt p (settingsItem 11 0 i) data s

/-! ### Alerts (R166 to R169) -/

/-- A source leaves, or SENSOR_FAULT is dealt with by whether its condition holds, and the mask becomes the level of any source
but MAINS_LOSS (R166, R167). -/
def Alerts.take (a : Alerts) (i : Fin 13) (fault : Bool) : Alerts :=
  let a1 := if i = Alert.sensorFault.num then
      (if fault then { a with taken := true } else { a.remove i with taken := false })
    else a.remove i
  { a1 with mask := if i = 0 then a.mask else a.levels[i] }

/-- TAKE_ALERT (R167). -/
def dealTakeAlert (p : Port) (cls : Code) (s : State) : Reply :=
  if cls ≠ 8 then refusedPlain .badObject s
  else
    match (s.alerts p).first with
    | none => answered .ok 15 s
    | some i => answered .ok (wordOf i.val) (s.setAlerts p ((s.alerts p).take i s.sensing.fault))

/-- SET_MASK (R168). -/
def dealSetMask (p : Port) (cls : Code) (data : Word) (s : State) : Reply :=
  if cls ≠ 8 then refusedPlain .badObject s
  else
    ⟨s.setAlerts p { s.alerts p with mask := min 7 data.toNat }, if data.toNat ≤ 7 then .ok else .clamped,
      wordOf (min 7 data.toNat)⟩

/-- WRITE of class ALERT_CTL (R169). A refused index has no level that its answer could carry: data 0 (R178; DESIGN CHOICE,
log 37). -/
def dealAlertLevel (p : Port) (i : Nat) (data : Word) (s : State) : Reply :=
  match levelSource p i with
  | some x =>
    ⟨s.setAlerts p { s.alerts p with levels := (s.alerts p).levels.set x (min 7 data.toNat) },
      if data.toNat ≤ 7 then .ok else .clamped, wordOf (min 7 data.toNat)⟩
  | none => refusedPlain (if 16 ≤ i ∧ i ≤ 20 then .notOwner else .badIndex) s

/-! ### WRITE (R178 check 2 and the rules of each object) -/

/-- WRITE of an object. JOURNAL, OUTLOG, OUTSUM, PLAN, ACREASE, STATUS and SENSORS are refused NOT_OWNER (R57, R72, R109, R129,
R161, R180); classes 14 and 15 name no object (R178). -/
def dealWrite (p : Port) (cls : Code) (idx : Index) (data : Word) (s : State) : Reply :=
  match cls.toNat with
  | 0 => dealWriteLive p idx.toNat data s
  | 2 => dealWriteTally p idx.toNat data s
  | 3 => dealTallyCtl p idx.toNat data s
  | 8 => dealAlertLevel p idx.toNat data s
  | 9 => dealProfile p idx.toNat data s
  | 10 => dealTempTable p idx.toNat data s
  | 11 => dealConfig p idx.toNat data s
  | 14 | 15 => refusedPlain .badObject s
  | _ => refusedPlain .notOwner s

/-! ### CHECKPOINT (R46) -/

/-- The journal origin of a controller's CHECKPOINT (R45). -/
def portOrigin : Port → Origin
  | .panel => .panel
  | .drive => .drive

/-- A taken CHECKPOINT: a request of the port's origin in RUN, or the last gasp of a drive command in FADING (R46, R80). -/
def takeCheckpoint (p : Port) (s : State) : State :=
  if s.runClosed then request (portOrigin p) s else makeLastGasp s

/-- CHECKPOINT (R46): the answer carries the number of requests in the queue once the new one has joined. -/
def dealCheckpoint (p : Port) (cls : Code) (s : State) : Reply :=
  if cls ≠ 1 then refusedPlain .badObject s
  else if s.built = false then refusedPlain .busy s
  else if s.mayWrite p = false then refusedPlain .wrongState s
  else if s.engine.queue.any (Request.isOrigin (portOrigin p)) then refusedPlain .busy s
  else
    let s1 := takeCheckpoint p s
    ⟨serve s1, .ok, wordOf s1.engine.queue.length⟩

/-! ### Hand-over commands (R134 to R137) -/

/-- A hand-over command refused after check 1 carries the hand-over state's code (R134). -/
def handOverRefuses (r : Result) (s : State) : Reply := ⟨s, r, wordOf s.handover.state.code⟩

/-- CONFIRM (R134, R135): the answer carries the verdict code of the recomputation. -/
def dealConfirm (p : Port) (cls : Code) (s : State) : Reply :=
  if cls ≠ 6 then refusedPlain .badObject s
  else if p ≠ .panel then handOverRefuses .notOwner s
  else if s.handover.state ≠ .offeredHold then handOverRefuses .wrongState s
  else
    let r := recomputeConfirm s
    ⟨serve r.1, .ok, wordOf r.2.code⟩

/-- ACCEPT (R134, R136): the plan that stands is applied and the hand-over closes. -/
def dealAccept (p : Port) (cls : Code) (data : Word) (s : State) : Reply :=
  if cls ≠ 6 then refusedPlain .badObject s
  else if p ≠ .drive then handOverRefuses .notOwner s
  else if s.handover.state ≠ .offeredAuto ∧ s.handover.state ≠ .confirmed then handOverRefuses .wrongState s
  else
    match s.plan with
    | none => handOverRefuses .wrongState s
    | some pl =>
      if data ≠ 0 ∧ data.toNat ≠ pl.evalCount then handOverRefuses .badValue s
      else ⟨serve (close (apply pl s)), .ok, wordOf pl.evalCount⟩

/-- DECLINE (R134, R137). -/
def dealDecline (p : Port) (cls : Code) (s : State) : Reply :=
  if cls ≠ 6 then refusedPlain .badObject s
  else if p ≠ .panel then handOverRefuses .notOwner s
  else if s.handover.state.offering = false then handOverRefuses .wrongState s
  else ⟨serve (close (writeDone .phase s)), .ok, 0⟩

/-! ### TUMBLE_ACK (R153) -/

/-- A TUMBLE_ACK taken in DUE (R153). -/
def acknowledge (s : State) : State :=
  deliver .tumblePulses 1
    { s with sched.state := .tumbling, sched.remaining := s.sched.tumbleLen * 1000, sched.missed := 0,
             sched.nextDir := s.sched.pulseDir.opposite }

/-- TUMBLE_ACK (R153): refused after check 1 it carries the scheduler's state code, taken U_eff in seconds. -/
def dealTumbleAck (p : Port) (cls : Code) (s : State) : Reply :=
  if cls ≠ 7 then refusedPlain .badObject s
  else if p ≠ .drive then ⟨s, .notOwner, wordOf s.sched.state.code⟩
  else if s.sched.state ≠ .due then ⟨s, .wrongState, wordOf s.sched.state.code⟩
  else ⟨serve (acknowledge s), .ok, wordOf s.sched.tumbleLen⟩

/-! ### Routing (R177, R178) -/

/-- A decoded frame that is not all ones, as the port routes it (R178, Table 11-3). -/
def dealFrame (p : Port) (w : Frame) (s : State) : Reply :=
  let cls := frameClass w
  let idx := frameIndex w
  let data := frameData w
  match (frameCmd w).toNat with
  | 0 => dealNop p s
  | 1 => dealRead p cls idx data s
  | 2 => dealWrite p cls idx data s
  | 3 => dealCheckpoint p cls s
  | 4 => dealTakeAlert p cls s
  | 5 => dealSetMask p cls data s
  | 6 => dealConfirm p cls s
  | 7 => dealAccept p cls data s
  | 8 => dealDecline p cls s
  | 9 => dealFreeze p cls s
  | 10 => dealRelease p cls s
  | 11 => dealMonitor p cls data s
  | 12 => dealTumbleAck p cls s
  | _ => refusedPlain .badObject s

/-- Any 32-bit frame completed on a port (R174 to R178). -/
def receiveFrame (p : Port) (w : Frame) (s : State) : State := frameIn p w (dealFrame p w) s

end Sys2Proof.Machine
end

