-- ==== Sys2Proof/Machine/AlertCommands.lean ====
section
/-! DEFINITION. The alert controller's commands (spec/10_alert_controller.md). -/

namespace Sys2Proof.Machine

/-- TAKE_ALERT (R167). -/
def execTakeAlert (p : Port) (cls : Code) (idx : Index) (data : Word) (s : State) : Out :=
  .next (frameIn p (frameOf 4 cls idx data) (dealTakeAlert p cls) s)

/-- SET_MASK (R168). -/
def execSetMask (p : Port) (cls : Code) (idx : Index) (data : Word) (s : State) : Out :=
  .next (frameIn p (frameOf 5 cls idx data) (dealSetMask p cls data) s)

/-- WRITE of ALERT_CTL (R169). -/
def execWriteAlertLevel (p : Port) (idx : Index) (data : Word) (s : State) : Out :=
  .next (frameIn p (frameOf 2 8 idx data) (dealAlertLevel p idx.toNat data) s)

end Sys2Proof.Machine
end

