-- ==== Sys2Proof/Machine/HandOverCommands.lean ====
section
/-! DEFINITION. The hand-over's commands (spec/08_plan_hand_over_and_heat_permit.md). -/

namespace Sys2Proof.Machine

/-- CONFIRM (R135). -/
def execConfirm (p : Port) (cls : Code) (idx : Index) (data : Word) (s : State) : Out :=
  .next (frameIn p (frameOf 6 cls idx data) (dealConfirm p cls) s)

/-- ACCEPT (R136). -/
def execAccept (p : Port) (cls : Code) (idx : Index) (data : Word) (s : State) : Out :=
  .next (frameIn p (frameOf 7 cls idx data) (dealAccept p cls data) s)

/-- DECLINE (R137). -/
def execDecline (p : Port) (cls : Code) (idx : Index) (data : Word) (s : State) : Out :=
  .next (frameIn p (frameOf 8 cls idx data) (dealDecline p cls) s)

end Sys2Proof.Machine
end

