-- ==== Sys2Proof/Machine/MainsCommands.lean ====
section
/-! DEFINITION. The mains supervisor's events (spec/05_mains_supervision_and_the_loss_sequence.md R74 to R84). -/

namespace Sys2Proof.Machine

/-- A ZCS pulse (R74, R75). -/
def execZeroCrossPulse (after : Nat) (s : State) : Out :=
  .next (if s.mainRunning then serve (pulse after s) else s)

/-- A loss is declared, in RUN (R76, R78). -/
def execLossDeclaration (s : State) : Out :=
  .next (if s.mainRunning ∧ s.mains.mode = .run then serve (loss s) else s)

/-- The pending qualification is withdrawn (R82). -/
def withdraw (s : State) : State :=
  { s with mains := { s.mains with qualPending := false, lossTimer := max s.mains.lossTimer (s.settings.cfg 2 * 1000) } }

/-- The loss timer reaches the loss timeout with a qualification pending in FADING (R82). -/
def execQualificationWithdrawn (s : State) : Out :=
  .next (if s.mainRunning ∧ s.mains.mode = .fading ∧ s.mains.qualPending then withdraw s else s)

/-- The last-gasp window expires: a due last gasp makes its request, a FADING without one ends (R80, R81). -/
def windowExpires (s : State) : State :=
  match s.mains.lastGasp with
  | .due => makeLastGasp s
  | .none => endFading s
  | .requested => { s with mains.window := none }

/-- The last-gasp window expires while it runs (R80, R81). -/
def execLastGaspWindowExpiry (s : State) : Out :=
  .next (if s.mainRunning ∧ s.mains.mode = .fading ∧ s.mains.window.isSome then serve (windowExpires s) else s)

end Sys2Proof.Machine
end

