-- ==== Sys2Proof/Machine/PortCommands.lean ====
section
/-! DEFINITION. The frames of the port itself (spec/11_frame_ports.md): NOP, writes of objects no port may write, undefined
commands, all-ones frames, frames to a DESYNCED port, and the gap. -/

namespace Sys2Proof.Machine

/-- NOP (R179). -/
def execNop (p : Port) (cls : Code) (idx : Index) (data : Word) (s : State) : Out :=
  .next (frameIn p (frameOf 0 cls idx data) (dealNop p) s)

/-- WRITE of an object or index that no port may write (R178). -/
def execWriteReadOnlyObject (p : Port) (cls : Code) (idx : Index) (data : Word) (s : State) : Out :=
  .next (frameIn p (frameOf 2 cls idx data) (dealWrite p cls idx data) s)

/-- A frame with command code 13 or 14, or 15 that is not all ones (R178 check 1). -/
def execUndefinedCommand (p : Port) (code cls : Code) (idx : Index) (data : Word) (s : State) : Out :=
  .next (frameIn p (frameOf code cls idx data) (dealFrame p (frameOf code cls idx data)) s)

/-- An all-ones frame (R175 on a SYNCED port). -/
def execAllOnesFrameSynced (p : Port) (s : State) : Out := .next (receiveFrame p allOnesFrame s)

/-- Any completed frame (R174 on a DESYNCED port; log 5). -/
def execFrameWhileDesynced (p : Port) (w : Frame) (s : State) : Out := .next (receiveFrame p w s)

/-- A gap inside a frame (R173). -/
def execFrameGap (p : Port) (bits : Nat) (s : State) : Out := .next (gapIn p bits s)

end Sys2Proof.Machine
end

