-- ==== Sys2Proof/Machine/RecordCommands.lean ====
section
/-! DEFINITION. The writes of the Live Progress Record (spec/01_the_live_progress_record.md). -/

namespace Sys2Proof.Machine

/-- WRITE of the programme (R6). -/
def execWriteProgramme (p : Port) (data : Word) (s : State) : Out :=
  .next (frameIn p (frameOf 2 0 0 data) (dealProgramme p data) s)

/-- WRITE of the options (R7). -/
def execWriteOptions (p : Port) (data : Word) (s : State) : Out :=
  .next (frameIn p (frameOf 2 0 1 data) (dealOptions p data) s)

/-- WRITE of the run request (R8). -/
def execWriteRunRequest (p : Port) (data : Word) (s : State) : Out :=
  .next (frameIn p (frameOf 2 0 2 data) (dealRunRequest p data) s)

/-- CANCEL: WRITE of 3 to the run request (R9). -/
def execCancel (p : Port) (s : State) : Out :=
  .next (frameIn p (frameOf 2 0 2 3) (dealRunRequest p 3) s)

/-- WRITE of the phase (R10). -/
def execWritePhase (p : Port) (data : Word) (s : State) : Out :=
  .next (frameIn p (frameOf 2 0 3 data) (dealPhase p data) s)

/-- WRITE of the deficit (R13). -/
def execWriteDeficit (p : Port) (data : Word) (s : State) : Out :=
  .next (frameIn p (frameOf 2 0 4 data) (dealDeficit p data) s)

end Sys2Proof.Machine
end

