-- ==== Sys2Proof/Machine/SchedulerCommands.lean ====
section
/-! DEFINITION. TUMBLE_ACK and the scheduler's expiries, and the phase clock's second (spec/09_anti_crease_scheduler.md,
spec/01_the_live_progress_record.md R14). -/

namespace Sys2Proof.Machine

/-- TUMBLE_ACK (R153). -/
def execTumbleAck (p : Port) (cls : Code) (idx : Index) (data : Word) (s : State) : Out :=
  .next (frameIn p (frameOf 12 cls idx data) (dealTumbleAck p cls) s)

/-- The scheduler's timing runs in a running main domain, in state `st` (R148). -/
def State.schedIn (s : State) (st : SchedState) : Bool := s.mainRunning && s.schedRuns && s.sched.state == st

/-- The window test of a counted second: in RESTING and DUE (R151). -/
def secondTest (s : State) : State :=
  if s.sched.state = .resting ∨ s.sched.state = .due then windowTest s else s

/-- The phase clock counts a second: the clock, the RUN_SECONDS occurrence, the window test (R14, R151; log 33). -/
def clockSecond (s : State) : State :=
  secondTest (deliver .runSeconds 1 { s with lpr.phaseClock := min 65535 (s.lpr.phaseClock + 1), lpr.partMs := 0 })

/-- The phase clock counts a second, where it counts (R14; log 3, log 4). -/
def execPhaseClockSecond (s : State) : Out :=
  .next (if s.mainRunning ∧ s.clockCounts then serve (clockSecond s) else s)

/-- The rest has run out: the window test, then DUE (R151, R152). -/
def restOver (s : State) : State :=
  if s.sched.windowEnd ≤ s.lpr.phaseClock then endOwn .window s else enterDue s

/-- The rest runs out (R152). -/
def execRestExpiry (s : State) : Out := .next (if s.schedIn .resting then serve (restOver s) else s)

/-- The pulse is missed (R152). -/
def missPulse (s : State) : State :=
  let n := min 3 (s.sched.missed + 1)
  let s1 := { s with sched.missed := n }
  if n = 3 then endOwn .noDrive s1 else enterRest (s.sched.period * 1000) s1

/-- The 3000 ms of DUE run out (R152). -/
def execTumbleAckTimeout (s : State) : Out := .next (if s.schedIn .due then serve (missPulse s) else s)

/-- The pulse is complete (R154). -/
def completePulse (s : State) : State :=
  enterRest ((s.sched.period - s.sched.tumbleLen) * 1000)
    { s with sched.pulsesDone := min 255 (s.sched.pulsesDone + 1) }

/-- The time remaining of TUMBLING runs out (R154). -/
def execTumbleComplete (s : State) : Out := .next (if s.schedIn .tumbling then serve (completePulse s) else s)

/-- The time remaining of RECOVERY runs out (R155). -/
def execRecoveryEnd (s : State) : Out :=
  .next (if s.schedIn .recovery then serve (enterRest (s.sched.period * 1000) s) else s)

end Sys2Proof.Machine
end

