-- ==== Sys2Proof/Machine/SensingCommands.lean ====
section
/-! DEFINITION. Sensing's events (spec/04_sensing_inputs.md). -/

namespace Sys2Proof.Machine

/-- The door input has held one level for 20 ms (R59). -/
def execDoorFirstAdoption (isOpen : Bool) (s : State) : Out :=
  .next (if s.mainRunning then serve (acceptDoor (Door.ofLevel isOpen) s) else s)

/-- The door input has held one level for 20 ms (R59, R60). -/
def execDoorChange (isOpen : Bool) (s : State) : Out :=
  .next (if s.mainRunning then serve (acceptDoor (Door.ofLevel isOpen) s) else s)

/-- A Hall combination has held for 2 ms (R61). -/
def execQuadFirstAdoption (q : Quad) (s : State) : Out := .next (if s.mainRunning then serve (acceptQuad q s) else s)

/-- A Hall combination has held for 2 ms (R61, R62). -/
def execQuadStep (q : Quad) (s : State) : Out := .next (if s.mainRunning then serve (acceptQuad q s) else s)

/-- A Hall combination has held for 2 ms (R61, R64). -/
def execQuadIllegalJump (q : Quad) (s : State) : Out := .next (if s.mainRunning then serve (acceptQuad q s) else s)

/-- A main-domain second passes with no step in it (R63). -/
def execDrumBurstClose (s : State) : Out := .next (if s.mainRunning then serve (closeBurst s) else s)

/-- A 10 ms sample of HTS (R65, R66). -/
def execHtsSample (high : Bool) (s : State) : Out := .next (if s.mainRunning then htsSampled high s else s)

/-- A running mismatch episode passes 2 s (R66). -/
def mismatchPasses (s : State) : State := raiseBoth .heaterMismatch { s with sensing.episode := .raised }

/-- The mismatch timer passes 2 s, in a running episode (R66). -/
def execMismatchTimerExpiry (s : State) : Out :=
  .next (if s.mainRunning ∧ s.sensing.episode = .running then mismatchPasses s else s)

/-- A main-domain second ends (R60, R65, R69, R70). -/
def execMainSecond (vbkMv : Nat) (tempFirst : Bool) (s : State) : Out :=
  .next (if s.mainRunning then serve (secondEnds vbkMv tempFirst s) else s)

/-- A thermistor conversion completes (R67). -/
def execThermistorConversion (code : BitVec 10) (s : State) : Out :=
  .next (if s.mainRunning then serve (conversion code s) else s)

end Sys2Proof.Machine
end

