-- ==== Sys2Proof/Machine/SettingsCommands.lean ====
section
/-! DEFINITION. The settings writes and the end of one (spec/12_settings_store.md, spec/02_progress_tallies.md R33). -/

namespace Sys2Proof.Machine

/-- WRITE of TALLY_CTL (R33). -/
def execWriteTallyCtl (p : Port) (idx : Index) (data : Word) (s : State) : Out :=
  .next (frameIn p (frameOf 2 3 idx data) (dealTallyCtl p idx.toNat data) s)

/-- WRITE of PROFILE (R183, R184). -/
def execWriteProfile (p : Port) (idx : Index) (data : Word) (s : State) : Out :=
  .next (frameIn p (frameOf 2 9 idx data) (dealProfile p idx.toNat data) s)

/-- WRITE of TEMP_TABLE (R184). -/
def execWriteTempTable (p : Port) (idx : Index) (data : Word) (s : State) : Out :=
  .next (frameIn p (frameOf 2 10 idx data) (dealTempTable p idx.toNat data) s)

/-- WRITE of CONFIG (R184). -/
def execWriteConfig (p : Port) (idx : Index) (data : Word) (s : State) : Out :=
  .next (frameIn p (frameOf 2 11 idx data) (dealConfig p idx.toNat data) s)

/-- The settings write in progress ends, if there is one (R185). -/
def settingsWork (readBack : Word) (s : State) : State :=
  match s.engine.work with
  | .settings p it w => serve (settingsEnds p it w readBack s)
  | _ => s

/-- The settings write in progress ends and the array reads back `readBack` (R50, R185; log 27). -/
def execSettingsWriteComplete (readBack : Word) (s : State) : Out :=
  .next (if s.mainRunning then settingsWork readBack s else s)

end Sys2Proof.Machine
end

