-- ==== Sys2Proof/Machine/StoreCommands.lean ====
section
/-! DEFINITION. CHECKPOINT, the commit of an entry and the end of a scan (spec/03_checkpoint_journal_and_store_engine.md). -/

namespace Sys2Proof.Machine

/-- CHECKPOINT (R46). -/
def execCheckpoint (p : Port) (cls : Code) (idx : Index) (data : Word) (s : State) : Out :=
  .next (frameIn p (frameOf 3 cls idx data) (dealCheckpoint p cls) s)

/-- The entry being written commits, if there is one (R42). -/
def entryWork (s : State) : State :=
  match s.engine.work with
  | .entry pos n o snap => serve (commit pos n o snap s)
  | _ => s

/-- Step 3 of the journal write in progress ends (R42). -/
def execEntryCommit (s : State) : Out := .next (if s.mainRunning then entryWork s else s)

/-- The scan in progress ends (R54). -/
def execScanComplete (s : State) : Out :=
  .next (if s.mainRunning ∧ s.engine.work = .scanning then serve (scanEnds s) else s)

end Sys2Proof.Machine
end

