-- ==== Sys2Proof/Machine/SupplyCommands.lean ====
section
/-! DEFINITION. The starts and ends of the two domains (spec/05_mains_supervision_and_the_loss_sequence.md R85 to R87,
spec/06_outage_watch.md R98, R99, R106, spec/00_scope.md Introduction 3.2). -/

namespace Sys2Proof.Machine

/-- RSTN goes low with VDD present (R86). -/
def execRstnAssertion (cut : CutStep) (s : State) : Out := .next (if s.mainRunning then assertReset cut s else s)

/-- RSTN is released (R86). -/
def execRstnRelease (vbkMv : Nat) (s : State) : Out :=
  .next (if s.vdd ∧ s.rstn then mainStart vbkMv { s with rstn := false } else s)

/-- VDD and VBK come up together (R87). -/
def execColdStart (vbkMv : Nat) (s : State) : Out :=
  .next (if s.vdd = false ∧ s.vbk = false then mainStart vbkMv (freshBackup { s with vdd := true, vbk := true }) else s)

/-- VBK is applied with VDD absent (R106). -/
def execBackupOnlyStart (s : State) : Out :=
  .next (if s.vdd = false ∧ s.vbk = false then freshBackup { s with vbk := true } else s)

/-- VDD rises with the backup domain held up (R98, Introduction 3.2). -/
def execWarmReturn (vbkMv : Nat) (s : State) : Out :=
  .next (if s.vdd = false ∧ s.vbk then mainStart vbkMv { s with vdd := true } else s)

/-- VDD collapses (R85). -/
def execVddCollapse (cut : CutStep) (s : State) : Out := .next (if s.vdd then collapse cut s else s)

/-- VBK falls too far with VDD absent: the backup domain ends, a flush in progress is cut (R99, R100; log 22). -/
def execVbkLoss (s : State) : Out :=
  .next (if s.vdd = false ∧ s.vbk then { freshBackup s with vbk := false } else s)

end Sys2Proof.Machine
end

