-- ==== Sys2Proof/Machine/TallyCommands.lean ====
section
/-! DEFINITION. Reads and writes of the progress tallies, the freeze set and the monitor (spec/02_progress_tallies.md). -/

namespace Sys2Proof.Machine

/-- READ of a tally's low part (R29). -/
def execReadTallyLow (p : Port) (t : Fin 6) (data : Word) (s : State) : Out :=
  .next (frameIn p (frameOf 1 2 (tallyIndex t 0) data) (dealRead p 2 (tallyIndex t 0) data) s)

/-- READ of a tally's high part (R29). -/
def execReadTallyHigh (p : Port) (t : Fin 6) (data : Word) (s : State) : Out :=
  .next (frameIn p (frameOf 1 2 (tallyIndex t 1) data) (dealRead p 2 (tallyIndex t 1) data) s)

/-- WRITE of a tally's value part (R30). -/
def execWriteTallyValue (p : Port) (t : Fin 6) (high : Bool) (data : Word) (s : State) : Out :=
  .next (frameIn p (frameOf 2 2 (tallyIndex t high.toNat) data) (dealTallyValue p t high data) s)

/-- WRITE of a tally's overflow flag (R31). -/
def execClearOverflowFlag (p : Port) (t : Fin 6) (data : Word) (s : State) : Out :=
  .next (frameIn p (frameOf 2 2 (tallyIndex t 2) data) (dealOverflow p t data) s)

/-- FREEZE (R25). -/
def execFreeze (p : Port) (cls : Code) (idx : Index) (data : Word) (s : State) : Out :=
  .next (frameIn p (frameOf 9 cls idx data) (dealFreeze p cls) s)

/-- RELEASE (R25). -/
def execRelease (p : Port) (cls : Code) (idx : Index) (data : Word) (s : State) : Out :=
  .next (frameIn p (frameOf 10 cls idx data) (dealRelease p cls) s)

/-- MONITOR (R32). -/
def execMonitor (p : Port) (cls : Code) (idx : Index) (data : Word) (s : State) : Out :=
  .next (frameIn p (frameOf 11 cls idx data) (dealMonitor p cls data) s)

end Sys2Proof.Machine
end

