-- ==== Sys2Proof/Machine/WatchCommands.lean ====
section
/-! DEFINITION. The events of the outage watch (spec/06_outage_watch.md). -/

namespace Sys2Proof.Machine

/-- The sequencer's sample (R92). -/
def execSample (doorOpen : Bool) (q : Quad) (code : BitVec 10) (vbkMv : Nat) (s : State) : Out :=
  .next (if s.vbk ∧ s.seq.state = .watch then serve (takeSample (Door.ofLevel doorOpen) q code vbkMv s) else s)

/-- The flush in progress ends (R99). -/
def execFlushComplete (s : State) : Out := .next (if s.vbk ∧ s.flushRuns then serve (endFlush s) else s)

/-- The outage timer advances by a second (R90). -/
def timerSecond (s : State) : State :=
  let n := min 65535 (s.outage.summary.duration + 1)
  { s with
    outage.partMs := 0
    outage.summary.duration := n
    outage.summary.quality :=
      if n = 65535 ∧ s.outage.summary.quality = .known then .lowerBound else s.outage.summary.quality }

/-- The outage timer counts a second, where it counts (R90). -/
def execOutageTimerSecond (s : State) : Out := .next (if s.vbk ∧ s.timerCounts then timerSecond s else s)

end Sys2Proof.Machine
end

