-- ==== Sys2Proof/Machine/Dispatch.lean ====
section
/-! DEFINITION. The dispatch: one arm per command, each a direct call of its meaning. -/

namespace Sys2Proof.Machine

def exec (i : Instr) (s : State) : Host.Outcome State Fault Refusal :=
  match i with
  | .nop p cls idx data => Sys2Proof.Machine.execNop p cls idx data s
  | .readTallyLow p tally data => Sys2Proof.Machine.execReadTallyLow p tally data s
  | .readTallyHigh p tally data => Sys2Proof.Machine.execReadTallyHigh p tally data s
  | .writeProgramme p data => Sys2Proof.Machine.execWriteProgramme p data s
  | .writeOptions p data => Sys2Proof.Machine.execWriteOptions p data s
  | .writeRunRequest p data => Sys2Proof.Machine.execWriteRunRequest p data s
  | .cancel p => Sys2Proof.Machine.execCancel p s
  | .writePhase p data => Sys2Proof.Machine.execWritePhase p data s
  | .writeDeficit p data => Sys2Proof.Machine.execWriteDeficit p data s
  | .writeTallyValue p tally high data => Sys2Proof.Machine.execWriteTallyValue p tally high data s
  | .clearOverflowFlag p tally data => Sys2Proof.Machine.execClearOverflowFlag p tally data s
  | .writeTallyCtl p idx data => Sys2Proof.Machine.execWriteTallyCtl p idx data s
  | .writeProfile p idx data => Sys2Proof.Machine.execWriteProfile p idx data s
  | .writeTempTable p idx data => Sys2Proof.Machine.execWriteTempTable p idx data s
  | .writeConfig p idx data => Sys2Proof.Machine.execWriteConfig p idx data s
  | .writeAlertLevel p idx data => Sys2Proof.Machine.execWriteAlertLevel p idx data s
  | .writeReadOnlyObject p cls idx data => Sys2Proof.Machine.execWriteReadOnlyObject p cls idx data s
  | .undefinedCommand p code cls idx data => Sys2Proof.Machine.execUndefinedCommand p code cls idx data s
  | .checkpoint p cls idx data => Sys2Proof.Machine.execCheckpoint p cls idx data s
  | .takeAlert p cls idx data => Sys2Proof.Machine.execTakeAlert p cls idx data s
  | .setMask p cls idx data => Sys2Proof.Machine.execSetMask p cls idx data s
  | .confirm p cls idx data => Sys2Proof.Machine.execConfirm p cls idx data s
  | .accept p cls idx data => Sys2Proof.Machine.execAccept p cls idx data s
  | .decline p cls idx data => Sys2Proof.Machine.execDecline p cls idx data s
  | .freeze p cls idx data => Sys2Proof.Machine.execFreeze p cls idx data s
  | .release p cls idx data => Sys2Proof.Machine.execRelease p cls idx data s
  | .monitor p cls idx data => Sys2Proof.Machine.execMonitor p cls idx data s
  | .tumbleAck p cls idx data => Sys2Proof.Machine.execTumbleAck p cls idx data s
  | .allOnesFrameSynced p => Sys2Proof.Machine.execAllOnesFrameSynced p s
  | .frameWhileDesynced p w => Sys2Proof.Machine.execFrameWhileDesynced p w s
  | .frameGap p bits => Sys2Proof.Machine.execFrameGap p bits s
  | .zeroCrossPulse after => Sys2Proof.Machine.execZeroCrossPulse after s
  | .lossDeclaration => Sys2Proof.Machine.execLossDeclaration s
  | .qualificationWithdrawn => Sys2Proof.Machine.execQualificationWithdrawn s
  | .lastGaspWindowExpiry => Sys2Proof.Machine.execLastGaspWindowExpiry s
  | .rstnAssertion cut => Sys2Proof.Machine.execRstnAssertion cut s
  | .rstnRelease vbkMv => Sys2Proof.Machine.execRstnRelease vbkMv s
  | .coldStart vbkMv => Sys2Proof.Machine.execColdStart vbkMv s
  | .backupOnlyStart => Sys2Proof.Machine.execBackupOnlyStart s
  | .warmReturn vbkMv => Sys2Proof.Machine.execWarmReturn vbkMv s
  | .vddCollapse cut => Sys2Proof.Machine.execVddCollapse cut s
  | .vbkLoss => Sys2Proof.Machine.execVbkLoss s
  | .doorFirstAdoption isOpen => Sys2Proof.Machine.execDoorFirstAdoption isOpen s
  | .doorChange isOpen => Sys2Proof.Machine.execDoorChange isOpen s
  | .quadFirstAdoption q => Sys2Proof.Machine.execQuadFirstAdoption q s
  | .quadStep q => Sys2Proof.Machine.execQuadStep q s
  | .quadIllegalJump q => Sys2Proof.Machine.execQuadIllegalJump q s
  | .drumBurstClose => Sys2Proof.Machine.execDrumBurstClose s
  | .htsSample high => Sys2Proof.Machine.execHtsSample high s
  | .mismatchTimerExpiry => Sys2Proof.Machine.execMismatchTimerExpiry s
  | .mainSecond vbkMv tempFirst => Sys2Proof.Machine.execMainSecond vbkMv tempFirst s
  | .thermistorConversion code => Sys2Proof.Machine.execThermistorConversion code s
  | .phaseClockSecond => Sys2Proof.Machine.execPhaseClockSecond s
  | .restExpiry => Sys2Proof.Machine.execRestExpiry s
  | .tumbleAckTimeout => Sys2Proof.Machine.execTumbleAckTimeout s
  | .tumbleComplete => Sys2Proof.Machine.execTumbleComplete s
  | .recoveryEnd => Sys2Proof.Machine.execRecoveryEnd s
  | .entryCommit => Sys2Proof.Machine.execEntryCommit s
  | .settingsWriteComplete readBack => Sys2Proof.Machine.execSettingsWriteComplete readBack s
  | .scanComplete => Sys2Proof.Machine.execScanComplete s
  | .sample doorOpen q code vbkMv => Sys2Proof.Machine.execSample doorOpen q code vbkMv s
  | .flushComplete => Sys2Proof.Machine.execFlushComplete s
  | .outageTimerSecond => Sys2Proof.Machine.execOutageTimerSecond s

end Sys2Proof.Machine
end

