-- ==== Sys2Proof/Machine/Time.lean ====
section
/-! DEFINITION. A millisecond of time on the timers that the state shows (DESIGN CHOICE, log 2). -/

namespace Sys2Proof.Machine

/-- A part-second advanced by a millisecond while it counts; its full second is a command (R14, R63, R90). -/
def partSecond (counts : Bool) (ms : Nat) : Nat := if counts then min 999 (ms + 1) else ms

/-- The supervisor's timers after a millisecond (R74, R80). -/
def Mains.tick (m : Mains) : Mains := { m with lossTimer := m.lossTimer + 1000, window := m.window.map (· - 1) }

/-- Sensing's timers after a millisecond (R63, R66). -/
def Sensing.tick (v : Sensing) : Sensing :=
  { v with
    secondMs := min 999 (v.secondMs + 1)
    mismatchMs := if v.episode = .running then min 2000 (v.mismatchMs + 1) else v.mismatchMs }

/-- The scheduler's time remaining after a millisecond in which its timing runs (R148). -/
def Sched.tick (c : Sched) (runs : Bool) : Sched :=
  if runs && c.state.timed then { c with remaining := c.remaining - 1 } else c

/-- A millisecond of the main domain. -/
def tickMain (s : State) : State :=
  if s.mainRunning then
    { s with
      mains := s.mains.tick
      sensing := s.sensing.tick
      lpr.partMs := partSecond s.clockCounts s.lpr.partMs
      sched := s.sched.tick s.schedRuns }
  else s

/-- The time to the next sample after a millisecond (R92). -/
def Sequencer.tick (q : Sequencer) : Sequencer :=
  if q.state = .watch then { q with toSample := q.toSample - 1 } else q

/-- A millisecond of the backup domain. -/
def tickBackup (s : State) : State :=
  if s.vbk then { s with outage.partMs := partSecond s.timerCounts s.outage.partMs, seq := s.seq.tick } else s

end Sys2Proof.Machine
end

