-- ==== Sys2Proof/Machine/Step.lean ====
section
/-! DEFINITION. The step: the command at the front of the queue, or a millisecond of time where none waits. -/

namespace Sys2Proof.Machine

/-- A millisecond passes (DESIGN CHOICE, log 2): the timers that the state shows move on; what a timer's expiry does is a
command of its own, so nothing else happens. -/
def tick (s : State) : State := tickBackup (tickMain s)

/-- The part's step: takes the command at the front of the queue and runs it with the queue's rest; on an empty queue a
millisecond passes (log 1, log 2). -/
def step (s : State) : Host.Outcome State Fault Refusal :=
  match s.pending with
  | [] => .next (tick s)
  | c :: rest => exec c { s with pending := rest }

/-- `s` with the command that a table word spells put at the front of its queue; unchanged where the word spells none. -/
def State.withFetchWord (s : State) (nbits w : Nat) : State :=
  match Sys2Proof.decodeTableWord nbits w with
  | some c => { s with pending := c :: s.pending }
  | none => s

end Sys2Proof.Machine
end

