-- ==== Sys2Proof/Safety.lean ====
section
/-! DEFINITION. The terms that the statements use: when a port takes frames, a state with an answer in its port, what a safe
state keeps (the invariants). -/

namespace Sys2Proof.Machine

/-! ### Frames and answers -/

/-- A port decodes frames: the main domain runs and the port is SYNCED (R171, R176). -/
def takesFrames (p : Port) (s : State) : Prop := s.mainRunning = true ∧ (s.port p).synced = true

/-- The state with an answer loaded into a port's response register and the port's all-ones mark clear (R175, R176). -/
def State.withAnswer (s : State) (p : Port) (a : Answer) : State :=
  s.setPort p { s.port p with allOnes := false, resp := some a }

/-- An answer, with the acknowledgement of Table 11-1 given by hand. -/
def answerOf (cmd : Code) (r : Result) (idx : Index) (data : Word) (ack : Ack) : Answer := ⟨cmd, r, idx, data, ack⟩

/-! ### Snapshots -/

/-- The snapshot of a waiting request has `P`. -/
def Request.snapHas (P : Snapshot → Prop) : Request → Prop
  | .journal _ b => P b
  | .settings .. => True

/-- The snapshot of the work in progress has `P`. -/
def Work.snapHas (P : Snapshot → Prop) : Work → Prop
  | .entry _ _ _ b => P b
  | .idle | .scanning | .settings .. | .flush => True

/-- The kept entry's body has `P`. -/
def Kept.snapHas (P : Snapshot → Prop) (k : Kept) : Prop := ∀ e, k.entry = some e → P e.body

/-- Every snapshot that the part holds has `P`: those that wait, the one being written, those in the journal, the kept one. -/
def State.snapshotsHave (s : State) (P : Snapshot → Prop) : Prop :=
  (∀ r ∈ s.engine.queue, Request.snapHas P r) ∧ s.engine.work.snapHas P ∧ (∀ i : Fin 16, P s.journal[i].body)
    ∧ ∀ k, s.kept = some k → k.snapHas P

/-! ### Invariants -/

/-- A snapshot's deficit, clock and counts lie in their ranges (Table 1-1, R147). -/
def Snapshot.inRange (b : Snapshot) : Prop :=
  b.deficit ≤ 1000 ∧ b.phaseClock ≤ 65535 ∧ b.pulsesDone ≤ 255 ∧ b.missed ≤ 3

/-- A plan's deficit and elapsed time lie in their ranges (Table 7-7). -/
def Plan.inRange (p : Plan) : Prop := p.dPrime ≤ 1000 ∧ p.elapsed ≤ 65535

/-- The record, every snapshot and the plan hold their numbers in range (R13: "The record, the journal bodies and the plan
therefore always hold a deficit between 0 and 1000"). -/
def recordInRange (s : State) : Prop :=
  s.lpr.deficit ≤ 1000 ∧ s.lpr.phaseClock ≤ 65535 ∧ s.sched.pulsesDone ≤ 255 ∧ s.sched.missed ≤ 3
    ∧ s.snapshotsHave Snapshot.inRange ∧ ∀ p, s.plan = some p → p.inRange

/-- An entry that an evaluation can resume: neither IDLE nor DONE, and not STOPPED (R119 row 1). -/
def Snapshot.resumable (b : Snapshot) : Prop := b.phase ≠ .idle ∧ b.phase ≠ .done ∧ b.runReq ≠ .stopped

/-- Every tally value that the part holds is a 24-bit one (R18, R20); while a plan is on offer or confirmed, the kept entry is
one to resume, and a planned heat phase is at least a second long (R34). -/
def talliesIn24Bits (s : State) : Prop :=
  (∀ i : Fin 6, s.tallies[i].value < 16777216)
    ∧ s.snapshotsHave (fun b => ∀ i : Fin 6, b.tallies[i] < 16777216)
    ∧ (s.handover.state.offering = true →
        (∃ k e, s.kept = some k ∧ k.entry = some e ∧ e.body.resumable)
          ∧ ∀ p, s.plan = some p → p.target = .heat → 1 ≤ p.heatSec)

/-- The store request queue holds at most one request of each source (R44), and no settings request of a port whose settings
write the engine is making (R50). -/
def oneRequestPerSource (s : State) : Prop :=
  (∀ o, s.engine.queue.countP (Request.isOrigin o) ≤ 1)
    ∧ ∀ p, s.engine.queue.countP (Request.isSettings p) + (s.engine.work.isSettings p).toNat ≤ 1

/-- A port between frames: a DESYNCED port holds no answer and counts at most 65535 frames, a SYNCED one counts none (R171,
R173, R174). -/
def PortState.sound (q : PortState) : Prop :=
  q.bitCounter = 0 ∧ (q.synced = false → q.resp = none ∧ q.ignored ≤ 65535) ∧ (q.synced = true → q.ignored = 0)

/-- Both ports are sound. -/
def portsSound (s : State) : Prop := s.panelPort.sound ∧ s.drivePort.sound

/-- A mask and levels of 0 to 7 (R163). -/
def Alerts.inRange (a : Alerts) : Prop := a.mask ≤ 7 ∧ ∀ i : Fin 13, a.levels[i] ≤ 7

/-- Both ports' masks and levels are in range, and the Panel Port never holds TUMBLE_DUE pending (R163, R164). -/
def alertsSound (s : State) : Prop :=
  s.panelAlerts.inRange ∧ s.driveAlerts.inRange ∧ s.panelAlerts.has Alert.tumbleDue.num = false

/-- A summary's numbers lie in their ranges (Table 6-6). -/
def Summary.inRange (m : Summary) : Prop :=
  m.duration ≤ 65535 ∧ m.doorOpenSec ≤ 65535 ∧ m.quarters ≤ 65535 ∧ m.itemsLost ≤ 255 ∧ -32768 ≤ m.net ∧ m.net ≤ 32767

/-- The outage watch's numbers lie in their ranges, and the sequencer is FLUSHING exactly while a flush is due or running
(R89, R97, R99, R101, Table 6-6). -/
def watchSound (s : State) : Prop :=
  s.outage.log.length ≤ 24 ∧ s.outage.summary.inRange ∧ s.flushedCopy.inRange ∧ s.seq.pace ≤ 3 ∧ s.seq.quiet ≤ 3
    ∧ (s.seq.state = .flushing ↔ s.seq.flushCopy.isSome = true) ∧ ∀ m, s.seq.flushCopy = some m → m.inRange

/-- The supply mode, the hand-over, the freeze set and the scan agree (R4, R26, R80, R131, R134): a hand-over that is not
CLOSED means RUN with a chain open; a scan means RUN and no offer; an offer means a built record; WAKING means an unbuilt one;
an unbuilt record or an undecided plan keeps RETURN in the freeze set, a loss keeps LOSS; a due last gasp, its window and a
pending qualification mean FADING; a main domain that does not run stands at WAKING (log 22). -/
def supplySound (s : State) : Prop :=
  (s.handover.state ≠ .closed → s.mains.mode = .run ∧ s.outage.chainOpen = true ∧ s.freeze.ret = true)
    ∧ (s.engine.scanDue = true ∨ s.engine.work = .scanning → s.mains.mode = .run ∧ s.handover.state.offering = false)
    ∧ ¬(s.engine.scanDue = true ∧ s.engine.work = .scanning)
    ∧ (s.handover.state.offering = true → s.built = true)
    ∧ (s.mains.mode = .waking → s.built = false)
    ∧ (s.built = false → s.freeze.ret = true)
    ∧ (s.mains.mode = .fading ∨ s.mains.mode = .held → s.freeze.loss = true ∧ s.outage.chainOpen = true)
    ∧ (s.mains.lastGasp = .due → s.mains.mode = .fading ∧ s.mains.window.isSome = true)
    ∧ (s.mains.window.isSome = true ∨ s.mains.qualPending = true → s.mains.mode = .fading)
    ∧ (s.mainRunning = false → s.mains.mode = .waking)

/-! ### Effects that several statements share -/

/-- Port transitions of the phase that need no run request, and those that need RUN (Table 1-4). -/
def plainTransitions : List (Phase × Phase) :=
  [(.idle, .done), (.heat, .cool), (.heat, .done), (.cool, .anticrease), (.cool, .done), (.anticrease, .done)]

/-- The transitions that begin a cycle (Table 1-4). -/
def startTransitions : List (Phase × Phase) := [(.idle, .heat), (.done, .heat)]

/-- The drive controller may write `ph` over `old` (R10, Table 1-4). -/
def driveMayWritePhase (old ph : Phase) (r : RunReq) : Prop :=
  (old, ph) ∈ plainTransitions ∨ ((old, ph) ∈ startTransitions ∧ r = .run)

/-- The queue `q'` is `q` with a request of origin `o` and snapshot `snap` made: it waits, and the requests of every other source
wait as they did (R44, R47). -/
def requested (o : Origin) (snap : Snapshot) (q q' : List Request) : Prop :=
  Request.journal o snap ∈ q' ∧ q'.filter (fun r => !r.isOrigin o) = q.filter (fun r => !r.isOrigin o)

/-- A phase change's PHASE request: made in RUN, with the state's snapshot after the change; none in another mode (R12). -/
def phaseRequested (s u : State) : Prop :=
  if s.mains.mode = .run then requested .phase u.snapshot s.engine.queue u.engine.queue else u.engine.queue = s.engine.queue

/-- The tallies after the restore of the preloaded tally's control (R35). -/
def restoredTallies (s : State) (ts : Vector Tally 6) : Prop :=
  ∀ i : Fin 6, ts[i] =
    if s.preloaded = some i then { s.tallies[i] with ctl := s.settings.controls[i], edgeMem := false } else s.tallies[i]

/-- `u` is `s` after a change of the phase into DONE (R11, R12, R35, R156): clock 0, STOPPED, the preloaded tally's control
restored, a running scheduler of ANTICREASE ended for the reason `r` with ANTICREASE_END on both ports, a PHASE request in RUN;
everything else as it was. -/
def changedToDone (r : EndReason) (s u : State) : Prop :=
  ∃ ts sc pa da q,
    u = { s with
      lpr := { s.lpr with phase := .done, phaseClock := 0, partMs := 0, runReq := .stopped }
      tallies := ts, preloaded := none, sched := sc, panelAlerts := pa, driveAlerts := da
      engine := { s.engine with queue := q } }
    ∧ restoredTallies s ts
    ∧ (if s.lpr.phase = .anticrease ∧ s.sched.state.timed = true then
        sc = { s.sched with state := .ended, remaining := 0, endReason := r }
          ∧ pa = s.panelAlerts.add .anticreaseEnd ∧ da = s.driveAlerts.add .anticreaseEnd
      else sc = s.sched ∧ pa = s.panelAlerts ∧ da = s.driveAlerts)
    ∧ phaseRequested s u

/-- A part write of DONE: a change into DONE, or nothing where the phase is DONE already (R11). -/
def partWroteDone (r : EndReason) (s u : State) : Prop :=
  if s.lpr.phase = .done then u = s else changedToDone r s u

/-- The scheduler has ended by itself for the reason `r` (R156): ENDED, DONE written into the record, ANTICREASE_END raised on
both ports. -/
def schedulerEnded (r : EndReason) (s u : State) : Prop :=
  ∃ v, partWroteDone .phase
      { s with sched := { s.sched with state := .ended, remaining := 0, endReason := r } } v
    ∧ u = { v with
      panelAlerts := v.panelAlerts.add .anticreaseEnd, driveAlerts := v.driveAlerts.add .anticreaseEnd }

/-- `u` is `s` with the scheduler come to RESTING with `ms` milliseconds to go, or ended by the window test of that entry
(R151). -/
def restedOrEnded (ms : Nat) (s u : State) : Prop :=
  if s.sched.windowEnd ≤ s.lpr.phaseClock then
    schedulerEnded .window { s with sched := { s.sched with state := .resting, remaining := ms } } u
  else u = { s with sched := { s.sched with state := .resting, remaining := ms } }

/-- The main-domain state of `t` is that of a main-domain start that measured VBK as `mv` millivolts (R70, R77, Tables 2-5,
4-7, 5-4, 8-5, 9-3, 10-3, 11-8, 12-2). -/
def mainAtStart (mv : Nat) (t : State) : Prop :=
  t.panelPort = PortState.start ∧ t.drivePort = PortState.start ∧ t.panelAlerts = Alerts.start ∧ t.driveAlerts = Alerts.start
    ∧ t.built = false ∧ t.lpr.partMs = 0 ∧ t.lpr.stale = true ∧ t.freeze = ⟨false, false, false, false, true⟩
    ∧ (∀ i : Fin 6, t.tallies[i].ctl = t.settings.controls[i] ∧ t.tallies[i].edgeMem = false) ∧ t.preloaded = none
    ∧ t.engine = Engine.start ∧ t.storeFault = false
    ∧ t.sensing = { Sensing.start with backupMv := some (min 6000 (mv / 10 * 10)) } ∧ t.mains = Mains.start
    ∧ t.plan = none ∧ t.kept = none ∧ t.handover = HandOver.start ∧ t.sched = Sched.start

/-- The main domain of `t` has ended (R85, R86): every state that it holds is lost, and the values a start gives, before it measures
VBK, stand for it until then (log 22); its tallies and its record are the unbuilt ones of log 8. -/
def mainEnded (t : State) : Prop :=
  t.panelPort = PortState.start ∧ t.drivePort = PortState.start ∧ t.panelAlerts = Alerts.start ∧ t.driveAlerts = Alerts.start
    ∧ t.built = false ∧ t.lpr.partMs = 0 ∧ t.lpr.stale = true ∧ t.freeze = ⟨false, false, false, false, true⟩
    ∧ (∀ i : Fin 6, t.tallies[i].ctl = t.settings.controls[i] ∧ t.tallies[i].edgeMem = false) ∧ t.preloaded = none
    ∧ t.engine = Engine.start ∧ t.storeFault = false ∧ t.sensing = Sensing.start ∧ t.mains = Mains.start
    ∧ t.plan = none ∧ t.kept = none ∧ t.handover = HandOver.start ∧ t.sched = Sched.start

/-- The sequencer `q` has entered WATCH (R91): the configured base, low level and floor, pace 3, or 1 once the backup is low, and
nothing counted yet; the floor lies 100 mV below the low level where it is configured no lower. -/
def watchEntered (s : State) (q : Sequencer) : Sequencer :=
  { q with
    state := .watch, base := s.settings.cfg 4, low := s.settings.cfg 5
    floor := if s.settings.cfg 5 ≤ s.settings.cfg 6 then s.settings.cfg 5 - 100 else s.settings.cfg 6
    pace := if s.outage.summary.backupLow then 1 else 3, quiet := 0, sampleFault := false, doorRem := 0, burst := none
    toSample := s.settings.cfg 4 * 1000 / 2 ^ (if s.outage.summary.backupLow then 1 else 3) }

/-- A chain as it is opened (R79, R103). -/
def openedChain (how : OpenedBy) (key : Option Word) (o : Outage) : Outage :=
  { o with
    chainOpen := true, openedBy := how, resetSeen := how == .reset, keyFromScan := how != .loss, partMs := 0, log := []
    summary := { Summary.opening (if how = .cold then .unknown else .known) with matchKey := key } }

/-! ### The outage record and the hand-over -/

/-- The outage record takes an item, timed by the outage timer (R101, R102): below 24 items it joins at the end; a full log merges a
DRUM_MOVE into a newest DRUM_MOVE and drops any other item. -/
def itemTaken (k : ItemKind) (amount : Option Nat) (o o' : Outage) : Prop :=
  (o.log.length < 24 → o' = { o with log := o.log ++ [⟨k, o.summary.duration, amount⟩] })
    ∧ (24 ≤ o.log.length → ∀ l last, o.log = l ++ [last] →
        (k = .drumMove → last.kind = .drumMove →
          o' = { o with
            log := l ++ [⟨.drumMove, o.summary.duration, some (min 65535 (last.amount.getD 0 + amount.getD 0))⟩] })
        ∧ (k ≠ .drumMove ∨ last.kind ≠ .drumMove →
          o' = { o with summary := { o.summary with itemsLost := min 255 (o.summary.itemsLost + 1) } }))

/-- Sensing's open burst has closed: nothing without one, else its DRUM_MOVE item is logged and handed to the hand-over (R63). -/
def burstClosed (s u : State) : Prop :=
  (s.sensing.burst = none → u = s)
    ∧ ∀ n, s.sensing.burst = some n → ∃ o, itemTaken .drumMove (some n) s.outage o
        ∧ u = newLogItem .drumMove { s with sensing := { s.sensing with burst := none }, outage := o }

/-- The outage logger has recorded an illegal jump (R64): the burst closes, then, where sensing is still the logger, motion
uncertain, two quarter-turns and a MOTION_UNCERTAIN item. -/
def jumpRecorded (s u : State) : Prop :=
  ∃ b, burstClosed s b ∧ (b.logger = false → u = b)
    ∧ (b.logger = true → ∃ o, itemTaken .motionUncertain none
          { b.outage with
            summary := { b.outage.summary with
              uncertain := true, quarters := min 65535 (b.outage.summary.quarters + 2) } } o
        ∧ u = newLogItem .motionUncertain { b with outage := o })

/-- A door change to `d` has been handed on (R60): the field, for an opening a DOOR_OPENINGS occurrence and the end of a running
scheduler, then the logger's finding, reference and item, or without a chain the reference, and DOOR_CHANGED on both ports. -/
def doorHandedOn (d : Door) (s u : State) : Prop :=
  ∃ (b c r : State) (k : ItemKind),
    k = (if d = .opened then .doorOpen else .doorClose)
    ∧ b = (if d = .opened then deliver .doorOpenings 1 { s with sensing := { s.sensing with door := some d } }
        else { s with sensing := { s.sensing with door := some d } })
    ∧ (d = .opened ∧ s.sched.state.timed = true → schedulerEnded .door b c)
    ∧ (d = .closed ∨ s.sched.state.timed = false → c = b)
    ∧ (s.logger = true → ∃ o, itemTaken k none
          { s.outage with
            summary := { s.outage.summary with doorOpened := s.outage.summary.doorOpened || d == .opened } } o
        ∧ r = newLogItem k { c with refs := { s.refs with door := some d }, outage := o })
    ∧ (s.logger = false →
        r = { c with refs := if s.outage.chainOpen then s.refs else { s.refs with door := some d } })
    ∧ u = { r with panelAlerts := r.panelAlerts.add .doorChanged, driveAlerts := r.driveAlerts.add .doorChanged }

/-- The hand-over has closed the chain (R108, R142): RETURN leaves the freeze set, the chain, the fresh flag, sensing's burst, the
pace and the quiet count are cleared, a chain opened by LOSS that lasted 1 s or less is a MAINS_DIPS occurrence, a RESUME request
carries the state after that, the kept inputs go, the state is CLOSED. -/
def chainClosed (v u : State) : Prop :=
  ∃ (w d : State) (q : List Request),
    w = { v with
      freeze := { v.freeze with ret := false }
      outage := { v.outage with chainOpen := false, fresh := false, keyFromScan := false }
      sensing := { v.sensing with burst := none }, seq := { v.seq with pace := 0, quiet := 0 } }
    ∧ d = (if v.outage.openedBy = .loss ∧ v.outage.summary.duration ≤ 1 then deliver .mainsDips 1 w else w)
    ∧ requested .resume d.snapshot d.engine.queue q
    ∧ u = { d with
      engine := { d.engine with queue := q }, kept := none, handover := { d.handover with state := .closed } }

/-- `u` is `s` with the plan `p` published (R133): the record replaced, VERDICT_READY on both ports, and PLAN_CHANGED too where
`changed`. -/
def planPublished (p : Plan) (changed : Bool) (s u : State) : Prop :=
  u = { s with
    plan := some p
    panelAlerts := if changed then (s.panelAlerts.add .verdictReady).add .planChanged else s.panelAlerts.add .verdictReady
    driveAlerts := if changed then (s.driveAlerts.add .verdictReady).add .planChanged else s.driveAlerts.add .verdictReady }

/-! ### The start of an evaluation -/

/-- The sequencer has been told of a mains qualification (R98): in WATCH an open burst's DRUM_MOVE, in every state a MAINS_RETURN item;
WATCH and SPENT become DORMANT with pace and quiet count 0, FLUSHING takes the return-seen mark. -/
def sequencerLeft (s u : State) : Prop :=
  ∃ b o : Outage,
    (∀ n, s.seq.state = .watch → s.seq.burst = some n → itemTaken .drumMove (some n) s.outage b)
    ∧ (s.seq.state ≠ .watch ∨ s.seq.burst = none → b = s.outage)
    ∧ itemTaken .mainsReturn none b o
    ∧ u = { s with
      outage := o
      seq := match s.seq.state with
        | .dormant => s.seq
        | .watch => { s.seq with state := .dormant, pace := 0, quiet := 0, burst := none }
        | .flushing => { s.seq with returnSeen := true }
        | .spent => { s.seq with state := .dormant, pace := 0, quiet := 0 } }

/-- An evaluation has begun (R130, R132, R159): EVALUATING, the plan empty, a running scheduler IDLE, a scan due. -/
def evaluationBegun (s u : State) : Prop :=
  u = { s with
    handover := { s.handover with state := .evaluating, late := false }, plan := none
    engine := { s.engine with scanDue := true }
    sched := if s.sched.state.timed then { s.sched with state := .idle, remaining := 0 } else s.sched }

/-- The door has been caught up (R71): nothing while it is unknown; a door that differs from a reference is handed on as a change; the
reference takes it. -/
def doorCaughtUp (s u : State) : Prop :=
  (s.sensing.door = none → u = s)
    ∧ ∀ d, s.sensing.door = some d →
      (s.refs.door = none ∨ s.refs.door = some d → u = { s with refs := { s.refs with door := some d } })
      ∧ (s.refs.door ≠ none → s.refs.door ≠ some d → doorHandedOn d s u)

/-- The drum has been caught up (R71): nothing while it is unknown; the reference takes its state, a step from a reference goes to the
summary and to the burst, an opposite state is recorded as an illegal jump. -/
def quadCaughtUp (s u : State) : Prop :=
  (s.sensing.quad = none → u = s)
    ∧ ∀ (q : Quad) (v : State), s.sensing.quad = some q → v = { s with refs := { s.refs with quad := some q } } →
      (s.refs.quad = none ∨ s.refs.quad = some q → u = v)
      ∧ (∀ (a : Quad) (d : Dir), s.refs.quad = some a → quadMove a q = .step d →
        u = { v with
          sensing := { s.sensing with burst := some (min 65535 (s.sensing.burst.getD 0 + 1)) }
          outage := { s.outage with
            summary := { s.outage.summary with
              quarters := min 65535 (s.outage.summary.quarters + 1)
              net := max (-32768) (min 32767 (s.outage.summary.net + (if d = .cw then 1 else -1))) } } })
      ∧ (∀ a : Quad, s.refs.quad = some a → quadMove a q = .opposite → jumpRecorded v u)

/-- The thermistor has been caught up (R71): a fault that entered outside the logger gives its item, the reference takes a known
temperature, and stays as it was without one (log 43). -/
def tempCaughtUp (s u : State) : Prop :=
  ∃ v : State,
    (s.sensing.fault = true → s.sensing.faultAsLogger = false → ∃ o, itemTaken .sensorFault none s.outage o
      ∧ v = newLogItem .sensorFault { s with outage := o })
    ∧ (s.sensing.fault = false ∨ s.sensing.faultAsLogger = true → v = s)
    ∧ u = { v with refs := { v.refs with temp := if v.sensing.lastTemp.isSome then v.sensing.lastTemp else v.refs.temp } }

/-! ### The temperature table -/

/-- The code of point `k` of a temperature table, as used. -/
def codeAt (t : Vector Word 18) (k : Fin 9) : Nat := min 1023 (t[k.val * 2]).toNat

/-- The temperature of point `k` of a temperature table, as used. -/
def degreesAt (t : Vector Word 18) (k : Fin 9) : Int := max (-20) (min 150 (t[k.val * 2 + 1]).toInt)

/-- The codes of a temperature table rise strictly from point to point (R68, R183). -/
def codesRise (t : Vector Word 18) : Prop := ∀ k : Fin 8, codeAt t k.castSucc < codeAt t k.succ

/-! ### The scan -/

/-- Slot `i` has `f`, and its sequence number is later, in modular order, than that of every other slot that has `f` (R53, R54). -/
def newestWith (f : Slot → Prop) (j : Vector Slot 16) (i : Fin 16) : Prop :=
  f j[i] ∧ ∀ k : Fin 16, k ≠ i → f j[k] →
    1 ≤ (j[i].seqNo - j[k].seqNo).toNat ∧ (j[i].seqNo - j[k].seqNo).toNat ≤ 32767

/-- A slot with a valid header: OPEN or COMPLETE (R38). -/
def Slot.headed (sl : Slot) : Prop := sl.state = .opened ∨ sl.state = .complete

/-- A COMPLETE slot (R38). -/
def Slot.whole (sl : Slot) : Prop := sl.state = .complete

/-! ### The evaluator's terms -/

/-- The sum of the codes whose tests hold (Table 7-6). -/
def codeSum (l : List (Bool × Nat)) : Nat := (l.map fun x => if x.1 then x.2 else 0).sum

/-- A plan's reasons: those of R120, and `l`. -/
def reasonsAre (i : EvalIn) (l : List (Bool × Nat)) (p : Plan) : Prop :=
  p.reasons.toNat = codeSum ([(decide (1 ≤ i.torn), 64), (i.fault, 128), (i.resetSeen, 1024)] ++ l)

/-- A plan that ends the programme, with deficit `d` and the reasons `l`. -/
def endsWith (i : EvalIn) (d : Nat) (l : List (Bool × Nat)) (p : Plan) : Prop :=
  p.verdict = .ended ∧ p.target = .done ∧ p.dPrime = d ∧ reasonsAre i l p

/-- A plan for the phase `ph`, with deficit `d` and the reasons `l` and `holds`: HOLD if one of `holds` is set, else AUTO. -/
def offers (i : EvalIn) (ph : Phase) (d : Nat) (l holds : List (Bool × Nat)) (p : Plan) : Prop :=
  p.verdict = (if holds.any Prod.fst then .hold else .auto) ∧ p.target = ph ∧ p.dPrime = d ∧ reasonsAre i (l ++ holds) p

/-- W_sec in seconds (R116). -/
def windowSec (i : EvalIn) (o : Options) : Nat := min 43200 (i.prof.window * 60 * if o.extended then 2 else 1)

/-- The anti-crease remainder from the elapsed time `a` (R121). -/
def remainderIs (i : EvalIn) (o : Options) (d a : Nat) (l holds : List (Bool × Nat)) (p : Plan) : Prop :=
  ∀ u, u = min i.prof.tumble (i.prof.period - 1) →
    p.elapsed = a ∧ p.windowRem = windowSec i o - a
    ∧ (windowSec i o ≤ a + u → endsWith i d (l ++ [(true, 32)]) p)
    ∧ (a + u < windowSec i o → offers i .anticrease d l holds p
      ∧ p.recovery = (if i.prof.crease * 60 ≤ i.tOut then i.prof.recovery else 0)
      ∧ p.offset = (if p.recovery = 0 then i.prof.period - a % i.prof.period else i.prof.period))

/-! ### Reads -/

/-- A READ is answered with result `r` and data `d`, acknowledged as taken or refused, and changes nothing else. -/
def readGives (p : Port) (cls : Code) (idx : Index) (data : Word) (s : State) (r : Result) (d : Word) : Prop :=
  exec (.frameWhileDesynced p (frameOf 1 cls idx data)) s =
    .next (s.withAnswer p (answerOf 1 r idx d (if r = .ok then .taken else .refused)))

/-- A read value that may be missing: `r` while it is. -/
def readOpt (r : Result) (o : Option Word) : Result × Word :=
  match o with
  | some d => (.ok, d)
  | none => (r, 0)

/-! ### Settings -/

/-- The only settings write of port `q` that waits or is being made writes `w` to `it`. -/
def onlyPending (q : Port) (it : Item) (w : Word) (s : State) : Prop :=
  (s.engine.queue.filter (Request.isSettings q) = [.settings q it w] ∧ s.engine.work.isSettings q = false)
    ∨ (s.engine.queue.filter (Request.isSettings q) = [] ∧ s.engine.work = .settings q it w)

/-- The temperature table as it will stand once any pending TEMP_TABLE write of port `q` has been made (R184 check 6). -/
def tableStands (q : Port) (s : State) (t : Vector Word 18) : Prop :=
  (s.settingsPending q = false ∧ t = s.settings.temp)
    ∨ ∃ it w, onlyPending q it w s ∧ t = (match it with | .temp j => s.settings.temp.set j w | _ => s.settings.temp)

end Sys2Proof.Machine
end

