-- ==== Sys2Proof/WellFormed.lean ====
section
/-! DEFINITION. Which terms of `Instr` spell a row of the table: the checks a frame's fields and a pin's reading meet.
A term that fails its check is still given a meaning (the frame it spells is dealt with as that frame). -/

namespace Sys2Proof

/-- The object classes no port may write at any index: JOURNAL, OUTLOG, OUTSUM, PLAN, ACREASE, STATUS and SENSORS
(R57, R72, R109, R129, R161, R180), and the codes 14 and 15 that name no object (R178). -/
def readOnlyClass (cls : Code) : Bool :=
  cls.toNat ∈ [1, 4, 5, 6, 7, 12, 13, 14, 15]

/-- A WRITE that no port may make: a read-only class, or an index no port may write in a class that has others. -/
def readOnlyTarget (cls : Code) (idx : Index) : Bool :=
  readOnlyClass cls
  || (cls.toNat == 0 && decide (5 ≤ idx.toNat))
  || (cls.toNat == 2 && (decide (24 ≤ idx.toNat) || idx.toNat % 4 == 3))
  || (cls.toNat == 3 && (decide (48 ≤ idx.toNat) || decide (6 ≤ idx.toNat % 8)))
  || (cls.toNat == 8 && (idx.toNat == 0 || decide (13 ≤ idx.toNat)))
  || ((cls.toNat == 9 || cls.toNat == 10) && decide (18 ≤ idx.toNat))
  || (cls.toNat == 11 && decide (8 ≤ idx.toNat))

/-- The well-formedness check of a command. -/
def Instr.wf : Instr → Bool
  | .writeRunRequest _ d => d != 3
  | .writeTallyCtl _ i _ => decide (i.toNat < 48) && decide (i.toNat % 8 < 6)
  | .writeProfile _ i _ => decide (i.toNat < 18)
  | .writeTempTable _ i _ => decide (i.toNat < 18)
  | .writeConfig _ i _ => decide (i.toNat < 8)
  | .writeAlertLevel _ i _ => decide (1 ≤ i.toNat) && decide (i.toNat ≤ 12)
  | .writeReadOnlyObject _ c i _ => readOnlyTarget c i
  | .undefinedCommand _ k c i d =>
      decide (13 ≤ k.toNat) && !(k == 15 && c == 15 && i == 255 && d == 65535)
  | .frameGap _ b => decide (1 ≤ b) && decide (b ≤ 31)
  | _ => true

end Sys2Proof
end

