-- ==== Sys2Proof/Certificates/Slice0/Obligations.lean ====
section
/-! DEFINITION. The statements for the provers. Each docstring names the rule of spec/ that it formalises, or says that it is the
model's own. `serve` is the store engine taking its next work (R39), said once in `ServeTakesTheNextWork`. -/

open Sys2Proof Sys2Proof.Machine

/-! ### The step, reset, and all commands at once -/

/-- The model's own (log 1): a step takes the command at the front of the queue and runs it with the queue's rest. -/
def Obligations.StepRunsTheFrontCommand : Prop :=
  ∀ (s : State) (c : Instr) (rest : List Instr), s.pending = c :: rest → step s = exec c { s with pending := rest }

/-- The model's own (log 2): on an empty queue a millisecond passes and nothing but the timers moves. In a running main domain the
loss timer, the last-gasp window and the part of the main-domain second go on, the mismatch timer in a running episode, the phase
clock's part-second while the clock counts, the scheduler's time remaining while its timing runs; on backup power the outage
timer's part-second while it counts, and in WATCH the time to the next sample. A timer that has a limit stops there. -/
def Obligations.EmptyQueueMovesOnlyTimers : Prop :=
  ∀ s : State, s.pending = [] →
    step s = .next { s with
      mains := if s.mainRunning then
          { s.mains with lossTimer := s.mains.lossTimer + 1000, window := s.mains.window.map fun n => n - 1 }
        else s.mains
      sensing := if s.mainRunning then
          { s.sensing with
            secondMs := min 999 (s.sensing.secondMs + 1)
            mismatchMs := if s.sensing.episode = .running then min 2000 (s.sensing.mismatchMs + 1) else s.sensing.mismatchMs }
        else s.sensing
      lpr := { s.lpr with
        partMs := if s.mainRunning = true ∧ s.clockCounts = true then min 999 (s.lpr.partMs + 1) else s.lpr.partMs }
      sched := { s.sched with
        remaining := if s.mainRunning = true ∧ s.schedRuns = true ∧ s.sched.state.timed = true then s.sched.remaining - 1
          else s.sched.remaining }
      outage := { s.outage with
        partMs := if s.vbk = true ∧ s.timerCounts = true then min 999 (s.outage.partMs + 1) else s.outage.partMs }
      seq := { s.seq with
        toSample := if s.vbk = true ∧ s.seq.state = .watch then s.seq.toSample - 1 else s.seq.toSample } }

/-- The state after reset: a cold start of a part as it leaves the factory. That reset is this start, and the 3000 mV, are the
model's choice (log 6), and so is what the start gives the registers without a reset value: HTS low, pulse direction CW, the
sequencer's base, levels and timers and the ports' gap timers 0 (log 7). -/
def Obligations.ResetIsAFactoryColdStart : Prop :=
  State.reset.pending = [] ∧ State.reset.vdd = true ∧ State.reset.vbk = true ∧ State.reset.rstn = false
    ∧ mainAtStart 3000 State.reset ∧ State.reset.seq = Sequencer.start
    ∧ State.reset.refs = ⟨none, none, none⟩ ∧ State.reset.outage.chainOpen = true ∧ State.reset.outage.openedBy = .cold
    ∧ State.reset.outage.fresh = true ∧ State.reset.outage.summary.quality = .unknown ∧ State.reset.outage.log = []
    ∧ (∀ i : Fin 16, State.reset.journal[i].state = .blank) ∧ State.reset.settings = factorySettings

/-- The model's own (log 1): what a command does leaves the queue of waiting commands alone. -/
def Obligations.CommandsLeaveTheQueueAlone : Prop :=
  ∀ (c : Instr) (s t : State), exec c s = .next t → t.pending = s.pending

/-- A frame command does what its 32-bit word does: every field of Table 11-2 is where the routing reads it (R177, R178). -/
def Obligations.FrameCommandsActAsTheirWords : Prop :=
  ∀ (c : Instr) (p : Port) (w : Frame) (s : State), c.frame = some (p, w) → exec c s = exec (.frameWhileDesynced p w) s

/-- What a frame cannot change. One answered neither OK nor CLAMPED changes nothing but the answer, the all-ones mark and the model's
counter of free values (R3, R134, R153, R178: a refused frame changes no state). A READ changes nothing but the answer, the mark and
the issuing port's read latch (R28, R29 and every object's "a taken read changes no state"). A frame on one port leaves the other
port's link, answer, latch and selector, and its mask, levels and taken mark, as they were (R29, R163, R171, R174). -/
def Obligations.FramesChangeNothingElse : Prop :=
  (∀ (p : Port) (w : Frame) (s t : State) (a : Answer), takesFrames p s → w ≠ allOnesFrame →
    exec (.frameWhileDesynced p w) s = .next t → (t.port p).resp = some a → a.result.takes = false →
    t = { s.setPort p { s.port p with allOnes := false, resp := some a } with freeCount := t.freeCount })
  ∧ (∀ (p : Port) (cls : Code) (idx : Index) (data : Word) (s : State), takesFrames p s →
    ∃ a latch, exec (.frameWhileDesynced p (frameOf 1 cls idx data)) s =
        .next (s.setPort p { s.port p with allOnes := false, resp := some a, latch := latch })
      ∧ (cls ≠ 2 → latch = (s.port p).latch))
  ∧ (∀ (p q : Port) (w : Frame) (s t : State), q ≠ p → exec (.frameWhileDesynced p w) s = .next t →
    t.port q = s.port q ∧ (t.alerts q).mask = (s.alerts q).mask ∧ (t.alerts q).levels = (s.alerts q).levels
      ∧ (t.alerts q).taken = (s.alerts q).taken)

/-- The model's own (log 4): while the main domain does not run, frames, sensing, the supervisor, the scheduler and the engine
change nothing. -/
def Obligations.StoppedMainDomainDoesNothing : Prop :=
  ∀ (c : Instr) (s : State), s.mainRunning = false →
    (match c with
      | .rstnRelease _ | .coldStart _ | .backupOnlyStart | .warmReturn _ | .vddCollapse _ | .vbkLoss | .sample .. |
        .flushComplete | .outageTimerSecond => False
      | _ => True) →
    exec c s = .next s

/-! ### Invariants -/

/-- Deficits, clocks and counts stay in range, in the record, every snapshot and the plan (section 1.6; R13). -/
def Obligations.RecordStaysInRange : Prop :=
  ∀ s t : State, recordInRange s → step s = .next t → recordInRange t

/-- Every tally value stays a 24-bit one (section 2.3; R20). -/
def Obligations.TalliesStayIn24Bits : Prop :=
  ∀ s t : State, talliesIn24Bits s → step s = .next t → talliesIn24Bits t

/-- The queue keeps at most one request from each source, and so holds at most eight (section 3.3; R44). -/
def Obligations.QueueKeepsOneRequestPerSource : Prop :=
  (∀ s t : State, oneRequestPerSource s → step s = .next t → oneRequestPerSource t)
    ∧ ∀ s : State, oneRequestPerSource s → s.engine.queue.length ≤ 8

/-- Each port keeps the relation of its link state to its answer and its count (R171 to R174). -/
def Obligations.PortsStaySound : Prop :=
  ∀ s t : State, portsSound s → step s = .next t → portsSound t

/-- Masks and levels stay 0 to 7, and the Panel Port never holds TUMBLE_DUE (section 10.2; R163, R164). -/
def Obligations.AlertsStaySound : Prop :=
  ∀ s t : State, alertsSound s → step s = .next t → alertsSound t

/-- The log keeps at most 24 items, the summary's numbers their ranges, FLUSHING its flush (chapter 6). -/
def Obligations.WatchStaysSound : Prop :=
  ∀ s t : State, watchSound s → step s = .next t → watchSound t

/-- Supply mode, hand-over, freeze set and scan stay in agreement (chapters 5 and 8). Its last clause, that a main domain which does
not run stands at WAKING, is the model's (log 22). -/
def Obligations.SupplyStaysSound : Prop :=
  ∀ s t : State, supplySound s → step s = .next t → supplySound t

/-- Every invariant holds after reset. -/
def Obligations.ResetMeetsTheInvariants : Prop :=
  recordInRange State.reset ∧ talliesIn24Bits State.reset ∧ oneRequestPerSource State.reset ∧ portsSound State.reset
    ∧ alertsSound State.reset ∧ watchSound State.reset ∧ supplySound State.reset

/-! ### The port's own frames -/

/-- NOP answers what the monitor selector gives and changes no state (R179). -/
def Obligations.NopAnswersTheMonitor : Prop :=
  ∀ (p : Port) (cls : Code) (idx : Index) (data : Word) (s : State), takesFrames p s →
    ((s.port p).monitor = none →
      exec (.nop p cls idx data) s = .next (s.withAnswer p (answerOf 0 .ok idx 0 .taken)))
    ∧ (∀ t, (s.port p).monitor = some t → s.built = true →
      exec (.nop p cls idx data) s =
        .next (s.withAnswer p (answerOf 0 .ok idx (BitVec.ofNat 16 (s.tallies[t].value % 65536)) .taken)))
    ∧ (∀ t, (s.port p).monitor = some t → s.built = false →
      exec (.nop p cls idx data) s = .next (s.withAnswer p (answerOf 0 .busy idx 0 .refused)))

/-- A WRITE of what no port may write is refused as the owning rule gives and changes nothing (but for the two answers whose data is
free, an unbuilt field's and the door's before its first adoption, which move the model's counter of free values on: log 8) (R57,
R72, R109, R129, R161, R169, R178, R180, R183; section 11.6); for LIVE fields 5 to 7 the answer carries the field (R3). A frame with
command 13 or 14, or 15 that is not all ones, is refused BAD_OBJECT and changes nothing (R178 check 1), and so is a CHECKPOINT,
TAKE_ALERT, CONFIRM, ACCEPT, DECLINE or TUMBLE_ACK that carries another class than its own (R46, R134, R153, R167). The data 0 of a
refused alert level write (class 8), where R169 says that the answer carries the level held, is the model's choice (log 37), and so
is the data 0 of an index of LIVE, TALLY_CTL, PROFILE, TEMP_TABLE or CONFIG that names nothing (log 41). -/
def Obligations.FramesNoBlockTakesAreRefused : Prop :=
  ∀ (p : Port) (cls : Code) (idx : Index) (data : Word) (s : State), takesFrames p s →
    (cls.toNat ∈ [1, 4, 5, 6, 7, 12, 13] →
      exec (.writeReadOnlyObject p cls idx data) s = .next (s.withAnswer p (answerOf 2 .notOwner idx 0 .refused)))
    ∧ (cls.toNat ∈ [14, 15] →
      exec (.writeReadOnlyObject p cls idx data) s = .next (s.withAnswer p (answerOf 2 .badObject idx 0 .refused)))
    ∧ (cls = 0 → 8 ≤ idx.toNat →
      exec (.writeReadOnlyObject p cls idx data) s = .next (s.withAnswer p (answerOf 2 .badIndex idx 0 .refused)))
    ∧ (cls = 0 → idx = 5 → s.built = true →
      exec (.writeReadOnlyObject p cls idx data) s =
        .next (s.withAnswer p (answerOf 2 .notOwner idx (BitVec.ofNat 16 s.lpr.phaseClock) .refused)))
    ∧ (cls = 0 → idx = 6 → s.built = true →
      exec (.writeReadOnlyObject p cls idx data) s =
        .next (s.withAnswer p (answerOf 2 .notOwner idx (BitVec.ofInt 16 s.lpr.temp) .refused)))
    ∧ (∀ d, cls = 0 → idx = 7 → s.built = true → s.sensing.door = some d →
      exec (.writeReadOnlyObject p cls idx data) s =
        .next (s.withAnswer p (answerOf 2 .notOwner idx (if d = .opened then 1 else 0) .refused)))
    ∧ (cls = 2 → idx = 24 →
      exec (.writeReadOnlyObject p cls idx data) s = .next (s.withAnswer p (answerOf 2 .notOwner idx 0 .refused)))
    ∧ (cls = 2 → 25 ≤ idx.toNat ∨ (idx.toNat < 24 ∧ idx.toNat % 4 = 3) →
      exec (.writeReadOnlyObject p cls idx data) s = .next (s.withAnswer p (answerOf 2 .badIndex idx 0 .refused)))
    ∧ (cls = 3 → 48 ≤ idx.toNat ∨ 6 ≤ idx.toNat % 8 →
      exec (.writeReadOnlyObject p cls idx data) s = .next (s.withAnswer p (answerOf 2 .badIndex idx 0 .refused)))
    ∧ (cls = 8 → 16 ≤ idx.toNat ∧ idx.toNat ≤ 20 →
      exec (.writeReadOnlyObject p cls idx data) s = .next (s.withAnswer p (answerOf 2 .notOwner idx 0 .refused)))
    ∧ (cls = 8 → idx = 0 ∨ (13 ≤ idx.toNat ∧ idx.toNat ≤ 15) ∨ 21 ≤ idx.toNat →
      exec (.writeReadOnlyObject p cls idx data) s = .next (s.withAnswer p (answerOf 2 .badIndex idx 0 .refused)))
    ∧ (cls = 9 ∨ cls = 10 → 18 ≤ idx.toNat →
      exec (.writeReadOnlyObject p cls idx data) s = .next (s.withAnswer p (answerOf 2 .badIndex idx 0 .refused)))
    ∧ (cls = 11 → 8 ≤ idx.toNat →
      exec (.writeReadOnlyObject p cls idx data) s = .next (s.withAnswer p (answerOf 2 .badIndex idx 0 .refused)))
    ∧ (cls = 0 → 5 ≤ idx.toNat → idx.toNat ≤ 7 → s.built = false → ∃ d,
      exec (.writeReadOnlyObject p cls idx data) s =
        .next (({ s with freeCount := s.freeCount + 1 } : State).withAnswer p (answerOf 2 .busy idx d .refused)))
    ∧ (cls = 0 → idx = 7 → s.built = true → s.sensing.door = none → ∃ d,
      exec (.writeReadOnlyObject p cls idx data) s =
        .next (({ s with freeCount := s.freeCount + 1 } : State).withAnswer p (answerOf 2 .notOwner idx d .refused)))
    ∧ (cls ≠ 1 → exec (.checkpoint p cls idx data) s = .next (s.withAnswer p (answerOf 3 .badObject idx 0 .refused)))
    ∧ (cls ≠ 8 → exec (.takeAlert p cls idx data) s = .next (s.withAnswer p (answerOf 4 .badObject idx 0 .refused)))
    ∧ (cls ≠ 6 →
      exec (.confirm p cls idx data) s = .next (s.withAnswer p (answerOf 6 .badObject idx 0 .refused))
      ∧ exec (.accept p cls idx data) s = .next (s.withAnswer p (answerOf 7 .badObject idx 0 .refused))
      ∧ exec (.decline p cls idx data) s = .next (s.withAnswer p (answerOf 8 .badObject idx 0 .refused)))
    ∧ (cls ≠ 7 → exec (.tumbleAck p cls idx data) s = .next (s.withAnswer p (answerOf 12 .badObject idx 0 .refused)))
    ∧ ∀ code : Code, 13 ≤ code.toNat → ¬(code = 15 ∧ cls = 15 ∧ idx = 255 ∧ data = 65535) →
      exec (.undefinedCommand p code cls idx data) s = .next (s.withAnswer p (answerOf code .badObject idx 0 .refused))

/-- The two-frame commands of the port: an all-ones frame on a SYNCED port, first and second of a pair (R175); any other
frame clears the mark, and one with command 15 is refused BAD_OBJECT. -/
def Obligations.AllOnesFramesOnASyncedPort : Prop :=
  ∀ (p : Port) (s : State), takesFrames p s →
    ((s.port p).allOnes = false →
      exec (.allOnesFrameSynced p) s =
        .next (s.setPort p { s.port p with allOnes := true, resp := some (answerOf 15 .badObject 255 0 .refused) }))
    ∧ ((s.port p).allOnes = true →
      exec (.allOnesFrameSynced p) s =
        .next (s.setPort p { s.port p with
          synced := true, bitCounter := 0, allOnes := false, ignored := 0, latch := none, monitor := none
          resp := some (answerOf 15 .ok 255 0 .resync) }))
    ∧ (∀ w t, w ≠ allOnesFrame → exec (.frameWhileDesynced p w) s = .next t → (t.port p).allOnes = false)
    ∧ ∀ w, w ≠ allOnesFrame → frameCmd w = 15 →
      exec (.frameWhileDesynced p w) s = .next (s.withAnswer p (answerOf 15 .badObject (frameIndex w) 0 .refused))

/-- A frame completed while DESYNCED: the pair of all-ones frames, the ignored count, no pulse and all ones on the data output
until the pair is complete, whose answer opens the next frame with a pulse of 6 clocks (R174). -/
def Obligations.FramesWhileDesynced : Prop :=
  ∀ (p : Port) (w : Frame) (s : State), s.mainRunning = true → (s.port p).synced = false → (s.port p).resp = none →
    (s.port p).pulse = 0 ∧ (s.port p).output = allOnesFrame ∧ Ack.resync.clocks = 6
    ∧ (w = allOnesFrame → (s.port p).allOnes = true →
      exec (.frameWhileDesynced p w) s =
        .next (s.setPort p { s.port p with
          synced := true, bitCounter := 0, allOnes := false, ignored := 0, latch := none, monitor := none
          resp := some (answerOf 15 .ok 255 (BitVec.ofNat 16 (s.port p).ignored) .resync) }))
    ∧ (w = allOnesFrame → (s.port p).allOnes = false →
      exec (.frameWhileDesynced p w) s = .next (s.setPort p { s.port p with allOnes := true }))
    ∧ (w ≠ allOnesFrame → (s.port p).allOnes = false →
      exec (.frameWhileDesynced p w) s =
        .next (s.setPort p { s.port p with ignored := min 65535 ((s.port p).ignored + 1) }))
    ∧ (w ≠ allOnesFrame → (s.port p).allOnes = true →
      exec (.frameWhileDesynced p w) s =
        .next (s.setPort p { s.port p with ignored := min 65535 ((s.port p).ignored + 2), allOnes := false }))

/-- A gap inside a frame: the partial frame is lost, a SYNCED port becomes DESYNCED and raises LINK_FAULT on itself alone
(section 11.2; R173). -/
def Obligations.GapsDesynchronise : Prop :=
  ∀ (p : Port) (bits : Nat) (s : State), s.mainRunning = true → 1 ≤ bits → bits ≤ 31 →
    ((s.port p).synced = true →
      exec (.frameGap p bits) s =
        .next ((s.setPort p { s.port p with
          synced := false, bitCounter := 0, allOnes := false, ignored := 0, resp := none }).setAlerts p
            ((s.alerts p).add .linkFault)))
    ∧ ((s.port p).synced = false →
      exec (.frameGap p bits) s = .next (s.setPort p { s.port p with bitCounter := 0, allOnes := false }))

/-! ### Reads -/

/-- READs of LIVE, STATUS, SENSORS, ALERT_CTL, PROFILE, TEMP_TABLE, CONFIG, TALLY_CTL and of a tally's flag and the freeze set,
index by index (Tables 1-2, 2-3, 4-6, 10-2, 11-7; R2, R28, R33, R72, R169, R180, R183): the answer's result and data, and nothing
else changes. A missing value is BUSY, an index that names nothing BAD_INDEX. That a PROFILE index above 17 is refused before a
programme above 15 is the model's (log 38). -/
def Obligations.ReadsOfWhatStands : Prop :=
  (∀ (p : Port) (idx : Index) (data : Word) (s : State), takesFrames p s →
    (∀ i : Fin 7, idx.toNat = i.val → s.built = true → readGives p 0 idx data s .ok
      (#v[BitVec.ofNat 16 s.lpr.programme.val, BitVec.ofNat 16 s.lpr.options.code, BitVec.ofNat 16 s.lpr.runReq.code,
        BitVec.ofNat 16 s.lpr.phase.code, BitVec.ofNat 16 s.lpr.deficit, BitVec.ofNat 16 s.lpr.phaseClock,
        BitVec.ofInt 16 s.lpr.temp] : Vector Word 7)[i])
    ∧ (∀ x, x = readOpt .busy (s.sensing.door.map fun d => BitVec.ofNat 16 d.code) →
        idx = 7 → s.built = true → readGives p 0 idx data s x.1 x.2)
    ∧ (idx.toNat ≤ 7 → s.built = false → readGives p 0 idx data s .busy 0)
    ∧ (7 < idx.toNat → readGives p 0 idx data s .badIndex 0)
    ∧ (∀ i : Fin 21, idx.toNat = i.val → readGives p 12 idx data s .ok (BitVec.ofNat 16
        (#v[s.mains.mode.code, s.seq.state.code, s.seq.pace, s.handover.state.code, (decide (s.engine.work ≠ .idle)).toNat,
          (match s.engine.work with
            | .idle => 0
            | .scanning => 1
            | .entry .. => 2
            | .settings .. => 3
            | .flush => 4),
          s.engine.queue.length, s.outage.fresh.toNat, s.outage.chainOpen.toNat, s.storeFault.toNat, s.engine.torn,
          (!s.panelPort.synced).toNat, (!s.drivePort.synced).toNat, s.lpr.stale.toNat, s.handover.overLimit.toNat, s.hpm.toNat,
          s.built.toNat, (s.settingsPending .panel).toNat, (s.settingsPending .drive).toNat, s.mains.lastGasp.code,
          s.mains.qualPending.toNat] : Vector Nat 21)[i]))
    ∧ (21 ≤ idx.toNat → readGives p 12 idx data s .badIndex 0)
    ∧ (∀ (i : Fin 11) (x : Result × Word), idx.toNat = i.val →
        x = (#v[readOpt .busy (s.sensing.door.map fun d => BitVec.ofNat 16 d.code),
          readOpt .busy (s.sensing.quad.map fun q => BitVec.ofNat 16 (quadCode q)), (.ok, BitVec.ofInt 16 s.sensing.acc),
          (.ok, match s.sensing.prevDir with
            | some .cw => 0
            | some .ccw => 1
            | none => 2),
          (.ok, BitVec.ofNat 16 s.sensing.quadFaults), (.ok, BitVec.ofNat 16 s.sensing.htsLatest.toNat),
          (.ok, BitVec.ofNat 16 s.sensing.episode.code),
          readOpt .busy (s.sensing.convCode.map fun c => BitVec.ofNat 16 c.toNat),
          readOpt .busy (s.sensing.convCode.map fun _ => BitVec.ofNat 16 s.sensing.fault.toNat),
          readOpt .busy (s.sensing.lastTemp.map fun t => BitVec.ofInt 16 t),
          readOpt .busy (s.sensing.backupMv.map fun v => BitVec.ofNat 16 v)] : Vector (Result × Word) 11)[i] →
        readGives p 13 idx data s x.1 x.2)
    ∧ (11 ≤ idx.toNat → readGives p 13 idx data s .badIndex 0)
    ∧ (∀ i : Fin 13, idx.toNat = i.val → 1 ≤ i.val → ¬(p = .panel ∧ i = 7) →
        readGives p 8 idx data s .ok (BitVec.ofNat 16 (s.alerts p).levels[i]))
    ∧ (∀ i : Fin 5, idx.toNat = 16 + i.val → readGives p 8 idx data s .ok (BitVec.ofNat 16
        (#v[(s.alerts p).mask, ((List.finRange 13).map fun k => if (s.alerts p).has k then 2 ^ k.val else 0).sum,
          ((List.finRange 13).map fun k => if (s.alerts p).presentable k then 2 ^ k.val else 0).sum, (s.alerts p).line.toNat,
          (s.alerts p).taken.toNat] : Vector Nat 5)[i]))
    ∧ (idx = 0 ∨ (13 ≤ idx.toNat ∧ idx.toNat ≤ 15) ∨ 21 ≤ idx.toNat ∨ (p = .panel ∧ idx = 7) →
        readGives p 8 idx data s .badIndex 0)
    ∧ (∀ (f : Fin 18) (g : Fin 16), idx.toNat = f.val → data.toNat = g.val →
        readGives p 9 idx data s .ok s.settings.profiles[g][f])
    ∧ (idx.toNat < 18 → 16 ≤ data.toNat → readGives p 9 idx data s .badValue 0)
    ∧ (18 ≤ idx.toNat → readGives p 9 idx data s .badIndex 0 ∧ readGives p 10 idx data s .badIndex 0)
    ∧ (∀ f : Fin 18, idx.toNat = f.val → readGives p 10 idx data s .ok s.settings.temp[f])
    ∧ (∀ f : Fin 8, idx.toNat = f.val → readGives p 11 idx data s .ok s.settings.config[f])
    ∧ (8 ≤ idx.toNat → readGives p 11 idx data s .badIndex 0)
    ∧ (∀ t f : Fin 6, idx.toNat = t.val * 8 + f.val → readGives p 3 idx data s .ok s.tallies[t].ctl[f])
    ∧ (48 ≤ idx.toNat ∨ 6 ≤ idx.toNat % 8 → readGives p 3 idx data s .badIndex 0)
    ∧ (∀ t : Fin 6, idx.toNat = t.val * 4 + 2 → s.built = true →
        readGives p 2 idx data s .ok (BitVec.ofNat 16 s.tallies[t].overflow.toNat))
    ∧ (∀ t : Fin 6, idx.toNat = t.val * 4 + 2 → s.built = false → readGives p 2 idx data s .busy 0)
    ∧ (idx = 24 → readGives p 2 idx data s .ok (BitVec.ofNat 16 s.freeze.code))
    ∧ (25 ≤ idx.toNat ∨ (idx.toNat < 24 ∧ idx.toNat % 4 = 3) → readGives p 2 idx data s .badIndex 0)
    ∧ readGives p 14 idx data s .badObject 0 ∧ readGives p 15 idx data s .badObject 0)
  ∧ [Phase.idle, .heat, .cool, .anticrease, .done].map Phase.code = [0, 1, 2, 3, 4]
  ∧ [RunReq.stopped, .run, .paused].map RunReq.code = [0, 1, 2] ∧ [Door.closed, .opened].map Door.code = [0, 1]
  ∧ (∀ o : Options, o.code = (if o.extended then 1 else 0) + (if o.noAnticrease then 2 else 0) + (if o.lowHeat then 4 else 0))
  ∧ [Mode.waking, .run, .fading, .held].map Mode.code = [0, 1, 2, 3]
  ∧ [SeqState.dormant, .watch, .flushing, .spent].map SeqState.code = [0, 1, 2, 3]
  ∧ [HoState.closed, .evaluating, .offeredAuto, .offeredHold, .confirmed].map HoState.code = [0, 1, 2, 3, 4]
  ∧ [LastGasp.none, .due, .requested].map LastGasp.code = [0, 1, 2] ∧ [Quad.q0, .q1, .q2, .q3].map quadCode = [0, 1, 2, 3]
  ∧ [Episode.none, .running, .raised].map Episode.code = [0, 1, 2]

/-- READs of JOURNAL, OUTLOG, OUTSUM, PLAN and ACREASE, index by index (Tables 3-4, 6-7, 7-7, 9-2; R56, R57, R109, R129, R161): the
answer's result and data, and nothing else changes. The journal is BUSY before the first scan and while the engine works; a missing
value is WRONG_STATE; the plan is BUSY in EVALUATING. That opened-by and reset-seen are WRONG_STATE after a close follows Table 6-7
against R108 (log 36). -/
def Obligations.ReadsOfWhatWasRecorded : Prop :=
  (∀ (p : Port) (idx : Index) (data : Word) (s : State), takesFrames p s →
    (s.engine.writePos = none ∨ s.engine.work ≠ .idle → readGives p 1 idx data s .busy 0)
    ∧ (∀ pos, s.engine.writePos = some pos → s.engine.work = .idle → idx.toNat % 16 = 10 ∨ idx.toNat % 16 = 11 →
        5 < data.toNat → readGives p 1 idx data s .badValue 0)
    ∧ (∀ (pos k : Fin 16) (age : Nat) (sl : Slot), s.engine.writePos = some pos → s.engine.work = .idle →
        age = idx.toNat / 16 → k.val = (pos.val + 31 - age) % 16 → sl = s.journal[k] →
        (idx.toNat % 16 = 0 → readGives p 1 idx data s .ok (BitVec.ofNat 16 sl.state.code))
        ∧ (idx.toNat % 16 = 15 → readGives p 1 idx data s .ok (BitVec.ofNat 16 k.val))
        ∧ (∀ x : Vector Word 14, x = #v[sl.seqNo, BitVec.ofNat 16 sl.origin.code, BitVec.ofNat 16 sl.body.programme.val,
              BitVec.ofNat 16 sl.body.options.code, BitVec.ofNat 16 sl.body.runReq.code, BitVec.ofNat 16 sl.body.phase.code,
              BitVec.ofNat 16 sl.body.deficit, BitVec.ofNat 16 sl.body.phaseClock, BitVec.ofInt 16 sl.body.temp, 0, 0,
              BitVec.ofNat 16 sl.body.nextDir.code, BitVec.ofNat 16 sl.body.pulsesDone, BitVec.ofNat 16 sl.body.missed] →
            sl.headed → ∀ f : Fin 14,
            idx.toNat % 16 = f.val + 1 → f ≠ 9 → f ≠ 10 → readGives p 1 idx data s .ok x[f])
        ∧ (∀ t : Fin 6, data.toNat = t.val → sl.headed →
            (idx.toNat % 16 = 10 → readGives p 1 idx data s .ok (BitVec.ofNat 16 (sl.body.tallies[t] % 65536)))
            ∧ (idx.toNat % 16 = 11 → readGives p 1 idx data s .ok (BitVec.ofNat 16 (sl.body.tallies[t] / 65536))))
        ∧ (1 ≤ idx.toNat % 16 → idx.toNat % 16 ≤ 14 → ¬sl.headed →
            ¬((idx.toNat % 16 = 10 ∨ idx.toNat % 16 = 11) ∧ 5 < data.toNat) → readGives p 1 idx data s .wrongState 0))
    ∧ (∀ it, idx.toNat < 96 → s.outage.log[idx.toNat / 4]? = some it →
        (idx.toNat % 4 = 0 → readGives p 4 idx data s .ok (BitVec.ofNat 16 it.kind.code))
        ∧ (idx.toNat % 4 = 1 → readGives p 4 idx data s .ok (BitVec.ofNat 16 it.time))
        ∧ (∀ a, idx.toNat % 4 = 2 → it.amount = some a → readGives p 4 idx data s .ok (BitVec.ofNat 16 a))
        ∧ (idx.toNat % 4 = 2 → it.amount = none → readGives p 4 idx data s .wrongState 0))
    ∧ (idx.toNat < 96 → idx.toNat % 4 ≠ 3 → s.outage.log[idx.toNat / 4]? = none → readGives p 4 idx data s .wrongState 0)
    ∧ (idx.toNat < 96 ∧ idx.toNat % 4 = 3 ∨ 96 < idx.toNat → readGives p 4 idx data s .badIndex 0)
    ∧ (idx = 96 → readGives p 4 idx data s .ok (BitVec.ofNat 16 s.outage.log.length))
    ∧ (∀ (m : Summary) (i : Fin 12) (x : Result × Word),
        (idx.toNat = i.val ∧ m = s.outage.summary) ∨ (idx.toNat = i.val + 32 ∧ m = s.flushedCopy) →
        x = (#v[(.ok, BitVec.ofNat 16 m.duration), (.ok, BitVec.ofNat 16 m.quality.code), (.ok, BitVec.ofNat 16 m.doorOpened.toNat),
          (.ok, BitVec.ofNat 16 m.doorOpenSec), (.ok, BitVec.ofNat 16 m.quarters), (.ok, BitVec.ofInt 16 m.net),
          (.ok, BitVec.ofNat 16 m.uncertain.toNat), readOpt .wrongState (m.lastTemp.map fun t => BitVec.ofInt 16 t),
          (.ok, BitVec.ofNat 16 m.backupLow.toNat), (.ok, BitVec.ofNat 16 m.itemsLost), readOpt .wrongState m.matchKey,
          (.ok, BitVec.ofNat 16 m.flushed.toNat)] : Vector (Result × Word) 12)[i] →
        readGives p 5 idx data s x.1 x.2)
    ∧ (∀ (i : Fin 7) (x : Result × Word), idx.toNat = i.val + 12 →
        x = (#v[(.ok, BitVec.ofNat 16 s.outage.chainOpen.toNat),
          readOpt .wrongState (if s.outage.chainOpen then some (BitVec.ofNat 16 s.outage.openedBy.code) else none),
          readOpt .wrongState (if s.outage.chainOpen then some (BitVec.ofNat 16 s.outage.resetSeen.toNat) else none),
          (.ok, BitVec.ofNat 16 s.seq.state.code), (.ok, BitVec.ofNat 16 s.seq.pace),
          readOpt .wrongState (s.seq.lastVbk.map fun v => BitVec.ofNat 16 v), (.ok, BitVec.ofNat 16 s.outage.fresh.toNat)]
          : Vector (Result × Word) 7)[i] →
        readGives p 5 idx data s x.1 x.2)
    ∧ ((19 ≤ idx.toNat ∧ idx.toNat ≤ 31) ∨ 44 ≤ idx.toNat → readGives p 5 idx data s .badIndex 0)
    ∧ (19 < idx.toNat → readGives p 6 idx data s .badIndex 0)
    ∧ (idx.toNat ≤ 19 → s.handover.state = .evaluating → readGives p 6 idx data s .busy 0)
    ∧ (idx.toNat ≤ 19 → s.handover.state ≠ .evaluating → s.plan = none → readGives p 6 idx data s .wrongState 0)
    ∧ (∀ (pl : Plan) (i : Fin 20) (x : Result × Word), idx.toNat = i.val → s.handover.state ≠ .evaluating → s.plan = some pl →
        x = (#v[(.ok, BitVec.ofNat 16 pl.verdict.code), (.ok, BitVec.ofNat 16 pl.reasons.toNat),
          (.ok, BitVec.ofNat 16 pl.target.code), (.ok, BitVec.ofNat 16 pl.cls.code), (.ok, BitVec.ofNat 16 pl.tOut),
          (.ok, BitVec.ofNat 16 pl.dPrime), (.ok, BitVec.ofNat 16 pl.rawHeat), (.ok, BitVec.ofNat 16 pl.credit),
          (.ok, BitVec.ofNat 16 pl.heatSec), (.ok, BitVec.ofNat 16 pl.coolSec), (.ok, BitVec.ofNat 16 pl.elapsed),
          (.ok, BitVec.ofNat 16 pl.windowRem), (.ok, BitVec.ofNat 16 pl.offset), (.ok, BitVec.ofNat 16 pl.recovery),
          (.ok, BitVec.ofNat 16 pl.nextDir.code), (.ok, BitVec.ofNat 16 pl.programme.val),
          (.ok, BitVec.ofNat 16 pl.options.code), readOpt .wrongState pl.sourceSeq, (.ok, BitVec.ofNat 16 pl.evalCount),
          readOpt .wrongState (pl.tRet.map fun t => BitVec.ofInt 16 t)] : Vector (Result × Word) 20)[i] →
        readGives p 6 idx data s x.1 x.2)
    ∧ (∀ (i : Fin 12) (x : Result × Word), idx.toNat = i.val →
        x = (#v[(.ok, BitVec.ofNat 16 s.sched.state.code), (.ok, BitVec.ofNat 16 s.sched.endReason.code),
          (.ok, BitVec.ofNat 16 (if s.sched.state.timed then (s.sched.remaining + 999) / 1000 else 0)),
          (.ok, BitVec.ofNat 16 s.suspended.toNat), (.ok, BitVec.ofNat 16 s.sched.nextDir.code),
          readOpt .wrongState (if s.sched.state.tmb then some (BitVec.ofNat 16 s.sched.pulseDir.code) else none),
          (.ok, BitVec.ofNat 16 s.sched.pulsesDone), (.ok, BitVec.ofNat 16 s.sched.missed),
          (.ok, BitVec.ofNat 16 s.sched.windowEnd), (.ok, BitVec.ofNat 16 s.sched.period),
          (.ok, BitVec.ofNat 16 s.sched.tumbleLen), (.ok, BitVec.ofNat 16 s.sched.state.tmb.toNat)]
          : Vector (Result × Word) 12)[i] →
        readGives p 7 idx data s x.1 x.2)
    ∧ (12 ≤ idx.toNat → readGives p 7 idx data s .badIndex 0))
  ∧ [SlotState.blank, .corrupt, .opened, .complete].map SlotState.code = [0, 1, 2, 3]
  ∧ [Origin.panel, .drive, .tally, .phase, .lastgasp, .resume].map Origin.code = [0, 1, 2, 3, 4, 5]
  ∧ [Dir.cw, .ccw].map Dir.code = [0, 1] ∧ [Quality.known, .lowerBound, .unknown].map Quality.code = [0, 1, 2]
  ∧ [ItemKind.doorOpen, .doorClose, .drumMove, .motionUncertain, .backupLow, .sensorFault, .mainsReturn, .mainsLost].map
      ItemKind.code = [0, 1, 2, 3, 4, 5, 6, 7]
  ∧ [OpenedBy.loss, .reset, .cold].map OpenedBy.code = [0, 1, 2] ∧ [Verdict.none, .auto, .hold, .ended].map Verdict.code = [0, 1, 2, 3]
  ∧ [OutClass.short, .medium, .long, .unknown].map OutClass.code = [0, 1, 2, 3]
  ∧ [SchedState.idle, .resting, .due, .tumbling, .recovery, .ended].map SchedState.code = [0, 1, 2, 3, 4, 5]
  ∧ [EndReason.none, .window, .door, .cancel, .noDrive, .phase].map EndReason.code = [0, 1, 2, 3, 4, 5]

/-! ### The Live Progress Record -/

/-- The checks of a LIVE write in their order: BUSY while unbuilt (what data such an answer carries is open, log 8), NOT_OWNER from
the other controller's port, WRONG_STATE where the field's controller may not write, with the value the field holds; a run request
above 3 and a phase above 4 are BAD_VALUE (sections 1.2 and 1.3; R3, R4, R5, R8, R10). -/
def Obligations.LiveWritesAreChecked : Prop :=
  ∀ (p owner : Port) (i : Index) (c : Instr) (data old : Word) (s : State), takesFrames p s →
    ((c = .writeProgramme p data ∧ i = 0 ∧ owner = .panel ∧ old = BitVec.ofNat 16 s.lpr.programme.val)
      ∨ (c = .writeOptions p data ∧ i = 1 ∧ owner = .panel ∧ old = BitVec.ofNat 16 s.lpr.options.code)
      ∨ ((c = .writeRunRequest p data ∨ c = .cancel p) ∧ i = 2 ∧ owner = .panel
        ∧ old = BitVec.ofNat 16 s.lpr.runReq.code)
      ∨ (c = .writePhase p data ∧ i = 3 ∧ owner = .drive ∧ old = BitVec.ofNat 16 s.lpr.phase.code)
      ∨ (c = .writeDeficit p data ∧ i = 4 ∧ owner = .drive ∧ old = BitVec.ofNat 16 s.lpr.deficit)) →
    (s.built = false → ∃ d,
      exec c s = .next (({ s with freeCount := s.freeCount + 1 } : State).withAnswer p (answerOf 2 .busy i d .refused)))
    ∧ (s.built = true → p ≠ owner → exec c s = .next (s.withAnswer p (answerOf 2 .notOwner i old .refused)))
    ∧ (s.built = true → p = owner → s.mayWrite p = false →
      exec c s = .next (s.withAnswer p (answerOf 2 .wrongState i old .refused)))
    ∧ (s.built = true → p = owner → s.mayWrite p = true →
      (c = .writeRunRequest p data ∧ 4 ≤ data.toNat) ∨ (c = .writePhase p data ∧ 5 ≤ data.toNat) →
      exec c s = .next (s.withAnswer p (answerOf 2 .badValue i old .refused)))

/-- A panel write of the programme: taken in IDLE and DONE, WRONG_STATE in the other phases, BAD_VALUE above 15; a taken one
stores the value and has no further effect (R6). -/
def Obligations.ProgrammeWrites : Prop :=
  ∀ (data : Word) (s : State), takesFrames .panel s → s.built = true → s.runClosed = true →
    (∀ h : data.toNat < 16, s.lpr.phase = .idle ∨ s.lpr.phase = .done →
      exec (.writeProgramme .panel data) s =
        .next (({ s with lpr := { s.lpr with programme := ⟨data.toNat, h⟩ } } : State).withAnswer .panel
          (answerOf 2 .ok 0 data .taken)))
    ∧ (s.lpr.phase = .heat ∨ s.lpr.phase = .cool ∨ s.lpr.phase = .anticrease →
      exec (.writeProgramme .panel data) s =
        .next (s.withAnswer .panel (answerOf 2 .wrongState 0 (BitVec.ofNat 16 s.lpr.programme.val) .refused)))
    ∧ (16 ≤ data.toNat → s.lpr.phase = .idle ∨ s.lpr.phase = .done →
      exec (.writeProgramme .panel data) s =
        .next (s.withAnswer .panel (answerOf 2 .badValue 0 (BitVec.ofNat 16 s.lpr.programme.val) .refused)))

/-- A panel write of the options: taken in any phase, BAD_VALUE above 7; a taken one replaces the whole set and nothing else, so
that a running scheduler's window stands (section 1.4; R7). A drive write of the deficit, in RUN or in FADING while a last gasp
is due: stored, held to 1000 and then answered CLAMPED; nothing else changes (section 1.6; R13). -/
def Obligations.OptionsAndDeficitWrites : Prop :=
  (∀ (data : Word) (s : State), takesFrames .panel s → s.built = true → s.runClosed = true →
    (data.toNat ≤ 7 →
      exec (.writeOptions .panel data) s =
        .next (({ s with
          lpr := { s.lpr with
            options := ⟨data.toNat % 2 == 1, data.toNat / 2 % 2 == 1, data.toNat / 4 == 1⟩ } } : State).withAnswer .panel
          (answerOf 2 .ok 1 data .taken)))
    ∧ (8 ≤ data.toNat →
      exec (.writeOptions .panel data) s =
        .next (s.withAnswer .panel (answerOf 2 .badValue 1 (BitVec.ofNat 16 s.lpr.options.code) .refused))))
  ∧ ∀ (data : Word) (s : State), takesFrames .drive s → s.built = true → s.mayWrite .drive = true →
    (data.toNat ≤ 1000 →
      exec (.writeDeficit .drive data) s =
        .next (({ s with lpr := { s.lpr with deficit := data.toNat } } : State).withAnswer .drive
          (answerOf 2 .ok 4 data .taken)))
    ∧ (1000 < data.toNat →
      exec (.writeDeficit .drive data) s =
        .next (({ s with lpr := { s.lpr with deficit := 1000 } } : State).withAnswer .drive
          (answerOf 2 .clamped 4 1000 .taken)))

/-- A panel write of the run request: a value already held and RUN; STOPPED and PAUSED, which suspend the scheduler and cut DUE,
TUMBLING and RECOVERY to RESTING for P; CANCEL: STOPPED, and DONE with the effects of a phase change unless the phase was DONE, a
running scheduler of ANTICREASE ending with reason CANCEL (sections 1.4 and 9.4; R8, R9, R158). -/
def Obligations.RunRequestAndCancelWrites : Prop :=
  ∀ s : State, takesFrames .panel s → s.built = true → s.runClosed = true →
    (∀ r : RunReq,
      (s.lpr.runReq = r →
        exec (.writeRunRequest .panel (BitVec.ofNat 16 r.code)) s =
          .next (s.withAnswer .panel (answerOf 2 .ok 2 (BitVec.ofNat 16 r.code) .taken)))
      ∧ (s.lpr.runReq ≠ r → r = .run ∨ s.sched.state.tmb = false →
        exec (.writeRunRequest .panel (BitVec.ofNat 16 r.code)) s =
          .next (({ s with lpr := { s.lpr with runReq := r } } : State).withAnswer .panel
            (answerOf 2 .ok 2 (BitVec.ofNat 16 r.code) .taken)))
      ∧ (s.lpr.runReq ≠ r → r ≠ .run → s.sched.state.tmb = true →
        ∃ u, restedOrEnded (s.sched.period * 1000) { s with lpr := { s.lpr with runReq := r } } u
          ∧ exec (.writeRunRequest .panel (BitVec.ofNat 16 r.code)) s =
              .next ((serve u).withAnswer .panel (answerOf 2 .ok 2 (BitVec.ofNat 16 u.lpr.runReq.code) .taken))))
    ∧ (s.lpr.phase = .done →
      exec (.cancel .panel) s =
        .next (({ s with lpr := { s.lpr with runReq := .stopped } } : State).withAnswer .panel
          (answerOf 2 .ok 2 0 .taken)))
    ∧ (s.lpr.phase ≠ .done → ∃ u, changedToDone .cancel s u
        ∧ exec (.cancel .panel) s = .next ((serve u).withAnswer .panel (answerOf 2 .ok 2 0 .taken)))

/-- A drive write of the phase, in RUN or in FADING while a last gasp is due: HEAT and COOL clear the clock and request a PHASE
entry in RUN; DONE is a change into DONE; a transition outside Table 1-4 is refused BAD_VALUE (section 1.5; R10, R11, R12). -/
def Obligations.PhaseWrites : Prop :=
  ∀ (ph : Phase) (s : State), takesFrames .drive s → s.built = true → s.mayWrite .drive = true →
    (ph = .heat ∨ ph = .cool → driveMayWritePhase s.lpr.phase ph s.lpr.runReq →
      ∃ u q, u = { s with
          lpr := { s.lpr with phase := ph, phaseClock := 0, partMs := 0 }, engine := { s.engine with queue := q } }
        ∧ phaseRequested s u
        ∧ exec (.writePhase .drive (BitVec.ofNat 16 ph.code)) s =
            .next ((serve u).withAnswer .drive (answerOf 2 .ok 3 (BitVec.ofNat 16 ph.code) .taken)))
    ∧ (ph = .done → driveMayWritePhase s.lpr.phase ph s.lpr.runReq →
      ∃ u, changedToDone .phase s u
        ∧ exec (.writePhase .drive (BitVec.ofNat 16 ph.code)) s =
            .next ((serve u).withAnswer .drive (answerOf 2 .ok 3 4 .taken)))
    ∧ (¬driveMayWritePhase s.lpr.phase ph s.lpr.runReq →
      exec (.writePhase .drive (BitVec.ofNat 16 ph.code)) s =
        .next (s.withAnswer .drive (answerOf 2 .badValue 3 (BitVec.ofNat 16 s.lpr.phase.code) .refused)))

/-- A drive write of COOL to ANTICREASE makes a fresh start: RESTING for P with the window's copies fixed and the counts cleared;
with a window of 0 the scheduler ends at once with WINDOW, with NO_ANTICREASE with PHASE (section 9.2; R149). -/
def Obligations.FreshStartOfTheScheduler : Prop :=
  ∀ s : State, takesFrames .drive s → s.built = true → s.mayWrite .drive = true → s.lpr.phase = .cool →
    (s.lpr.options.noAnticrease = false → 0 < (s.settings.prof s.lpr.programme).wSec s.lpr.options →
      ∃ u q, u = { s with
          lpr := { s.lpr with phase := .anticrease, phaseClock := 0, partMs := 0 }
          sched := { s.sched with
            state := .resting, remaining := (s.settings.prof s.lpr.programme).period * 1000, nextDir := .cw, pulsesDone := 0
            missed := 0, endReason := .none, windowEnd := (s.settings.prof s.lpr.programme).wSec s.lpr.options
            period := (s.settings.prof s.lpr.programme).period, tumbleLen := (s.settings.prof s.lpr.programme).uEff }
          engine := { s.engine with queue := q } }
        ∧ phaseRequested s u
        ∧ exec (.writePhase .drive 3) s = .next ((serve u).withAnswer .drive (answerOf 2 .ok 3 3 .taken)))
    ∧ (s.lpr.options.noAnticrease = true ∨ (s.settings.prof s.lpr.programme).wSec s.lpr.options = 0 →
      ∃ t, exec (.writePhase .drive 3) s = .next t ∧ t.lpr.phase = .done ∧ t.lpr.runReq = .stopped ∧ t.lpr.phaseClock = 0
        ∧ t.sched.state = .ended
        ∧ t.sched.endReason = (if s.lpr.options.noAnticrease then .phase else .window)
        ∧ t.panelAlerts.has Alert.anticreaseEnd.num = true ∧ t.driveAlerts.has Alert.anticreaseEnd.num = true
        ∧ (t.drivePort.resp.map Answer.data) = some 4 ∧ t.settings = s.settings ∧ t.journal = s.journal
        ∧ t.sensing = s.sensing ∧ t.mains = s.mains ∧ t.freeze = s.freeze ∧ t.handover = s.handover ∧ t.plan = s.plan)

/-! ### The tallies -/

/-- READs of a tally: the low part loads the port's latch; the high part is the latched byte where the latch holds that tally,
and empties it, else the live byte; unbuilt values are BUSY (section 2.6; R28, R29). -/
def Obligations.TallyReads : Prop :=
  ∀ (p : Port) (t : Fin 6) (data : Word) (s : State), takesFrames p s →
    (s.built = true →
      exec (.readTallyLow p t data) s = .next (s.setPort p { s.port p with
        allOnes := false, latch := some (t, s.tallies[t].value / 65536)
        resp := some (answerOf 1 .ok (BitVec.ofNat 8 (t.val * 4)) (BitVec.ofNat 16 (s.tallies[t].value % 65536)) .taken) }))
    ∧ (∀ b, s.built = true → (s.port p).latch = some (t, b) →
      exec (.readTallyHigh p t data) s = .next (s.setPort p { s.port p with
        allOnes := false, latch := none
        resp := some (answerOf 1 .ok (BitVec.ofNat 8 (t.val * 4 + 1)) (BitVec.ofNat 16 b) .taken) }))
    ∧ (s.built = true → (∀ b, (s.port p).latch ≠ some (t, b)) →
      exec (.readTallyHigh p t data) s = .next (s.withAnswer p
        (answerOf 1 .ok (BitVec.ofNat 8 (t.val * 4 + 1)) (BitVec.ofNat 16 (s.tallies[t].value / 65536)) .taken)))
    ∧ (s.built = false →
      exec (.readTallyLow p t data) s = .next (s.withAnswer p (answerOf 1 .busy (BitVec.ofNat 8 (t.val * 4)) 0 .refused))
      ∧ exec (.readTallyHigh p t data) s =
        .next (s.withAnswer p (answerOf 1 .busy (BitVec.ofNat 8 (t.val * 4 + 1)) 0 .refused)))

/-- WRITEs of a tally, FREEZE, RELEASE and MONITOR. A write is BUSY while unbuilt and WRONG_STATE where the controller may not write;
a value part replaces that part alone while the tally is frozen or disabled, a high part held to 255; a 0 to the overflow index clears
the flag; both leave every other tally and everything else (section 2.6; R30, R31). Data 0 of a refused write and the order of the
overflow flag's checks are read from R178 and R30 (log 18), and the data of a taken clear is free, with the model's counter of free
values moved on (log 9). FREEZE adds the issuing port's reason, RELEASE removes it and NOTIFY, in every supply mode and hand-over
state; the answer carries the set. MONITOR selects the tally its data names, 6 none, above 6 BAD_VALUE; nothing else of the port
moves, but its answer's data is free and the counter moves on (log 9). With another class all three are BAD_OBJECT (sections 2.5 and
2.7; R25, R32). -/
def Obligations.TallyAndFreezeCommands : Prop :=
  ((∀ (p : Port) (t : Fin 6) (high : Bool) (data : Word) (s : State), takesFrames p s →
    (s.built = false →
      exec (.writeTallyValue p t high data) s =
        .next (s.withAnswer p (answerOf 2 .busy (BitVec.ofNat 8 (t.val * 4 + if high then 1 else 0)) 0 .refused))
      ∧ exec (.clearOverflowFlag p t data) s =
        .next (s.withAnswer p (answerOf 2 .busy (BitVec.ofNat 8 (t.val * 4 + 2)) 0 .refused)))
    ∧ (s.built = true → s.mayWrite p = false →
      exec (.writeTallyValue p t high data) s =
        .next (s.withAnswer p (answerOf 2 .wrongState (BitVec.ofNat 8 (t.val * 4 + if high then 1 else 0)) 0 .refused))
      ∧ exec (.clearOverflowFlag p t data) s =
        .next (s.withAnswer p (answerOf 2 .wrongState (BitVec.ofNat 8 (t.val * 4 + 2)) 0 .refused))))
  ∧ ∀ (p : Port) (t : Fin 6) (data : Word) (s : State), takesFrames p s → s.built = true → s.mayWrite p = true →
    (s.freeze.any = true ∨ controlUse t 5 s.tallies[t].ctl = 0 →
      exec (.writeTallyValue p t false data) s =
        .next (({ s with
            tallies := s.tallies.set t
              { s.tallies[t] with value := s.tallies[t].value / 65536 * 65536 + data.toNat } } : State).withAnswer p
          (answerOf 2 .ok (BitVec.ofNat 8 (t.val * 4)) data .taken))
      ∧ exec (.writeTallyValue p t true data) s =
        .next (({ s with
            tallies := s.tallies.set t
              { s.tallies[t] with value := min 255 data.toNat * 65536 + s.tallies[t].value % 65536 } } : State).withAnswer p
          (answerOf 2 (if data.toNat ≤ 255 then .ok else .clamped) (BitVec.ofNat 8 (t.val * 4 + 1))
            (BitVec.ofNat 16 (min 255 data.toNat)) .taken)))
    ∧ (s.freeze.any = false → controlUse t 5 s.tallies[t].ctl = 1 → ∀ high,
      exec (.writeTallyValue p t high data) s =
        .next (s.withAnswer p (answerOf 2 .wrongState (BitVec.ofNat 8 (t.val * 4 + if high then 1 else 0)) 0 .refused)))
    ∧ (data = 0 → ∃ d,
      exec (.clearOverflowFlag p t data) s =
        .next (({ s with
            tallies := s.tallies.set t { s.tallies[t] with overflow := false }, freeCount := s.freeCount + 1 } : State).withAnswer
          p (answerOf 2 .ok (BitVec.ofNat 8 (t.val * 4 + 2)) d .taken)))
    ∧ (data ≠ 0 →
      exec (.clearOverflowFlag p t data) s =
        .next (s.withAnswer p (answerOf 2 .badValue (BitVec.ofNat 8 (t.val * 4 + 2)) 0 .refused))))
  ∧ (∀ (p : Port) (cls : Code) (idx : Index) (data : Word) (s : State), takesFrames p s →
    (cls = 2 → ∃ f, f = (match p with
          | .panel => { s.freeze with panel := true }
          | .drive => { s.freeze with drive := true })
      ∧ exec (.freeze p cls idx data) s =
          .next (({ s with freeze := f } : State).withAnswer p (answerOf 9 .ok idx (BitVec.ofNat 16 f.code) .taken)))
    ∧ (cls = 2 → ∃ f, f = (match p with
          | .panel => { s.freeze with panel := false, notify := false }
          | .drive => { s.freeze with drive := false, notify := false })
      ∧ exec (.release p cls idx data) s =
          .next (({ s with freeze := f } : State).withAnswer p (answerOf 10 .ok idx (BitVec.ofNat 16 f.code) .taken)))
    ∧ (cls ≠ 2 →
      exec (.freeze p cls idx data) s = .next (s.withAnswer p (answerOf 9 .badObject idx 0 .refused))
      ∧ exec (.release p cls idx data) s = .next (s.withAnswer p (answerOf 10 .badObject idx 0 .refused))
      ∧ exec (.monitor p cls idx data) s = .next (s.withAnswer p (answerOf 11 .badObject idx 0 .refused)))
    ∧ (∀ h : data.toNat < 6, ∃ d, exec (.monitor p 2 idx data) s =
      .next (({ s with freeCount := s.freeCount + 1 } : State).setPort p { s.port p with
        allOnes := false, monitor := some ⟨data.toNat, h⟩, resp := some (answerOf 11 .ok idx d .taken) }))
    ∧ (data = 6 → ∃ d, exec (.monitor p 2 idx data) s =
      .next (({ s with freeCount := s.freeCount + 1 } : State).setPort p { s.port p with
        allOnes := false, monitor := none, resp := some (answerOf 11 .ok idx d .taken) }))
    ∧ (6 < data.toNat → exec (.monitor p 2 idx data) s = .next (s.withAnswer p (answerOf 11 .badValue idx 0 .refused)))
    ∧ ∀ f : Freeze, f.code = (if f.notify then 1 else 0) + (if f.panel then 2 else 0) + (if f.drive then 4 else 0)
        + (if f.loss then 8 else 0) + (if f.ret then 16 else 0))

/-- Delivery of an occurrence (sections 2.3, 2.4; R20 to R24): nothing while the freeze set holds anything; else each enabled
tally of that source counts, with threshold 0 by the increment, with another threshold by one where its condition holds; a
value past 16777215 wraps and sets the flag; where some such tally with notify set wraps, NOTIFY is added, TALLY_TARGET raised on
both ports and, with auto checkpoint, a TALLY request made. -/
def Obligations.OccurrencesAreCounted : Prop :=
  ∀ (src : Source) (inc : Nat) (s : State),
    (s.freeze.any = true → deliver src inc s = s)
    ∧ (s.freeze.any = false → ∀ i : Fin 6,
        (s.tallies[i].source i ≠ src ∨ controlUse i 5 s.tallies[i].ctl ≠ 1 →
          (deliver src inc s).tallies[i] = s.tallies[i])
        ∧ (s.tallies[i].source i = src → controlUse i 5 s.tallies[i].ctl = 1 → controlUse i 1 s.tallies[i].ctl = 0 →
          (deliver src inc s).tallies[i] = (if s.tallies[i].value + inc > 16777215 then
              { s.tallies[i] with value := (s.tallies[i].value + inc) % 16777216, overflow := true }
            else { s.tallies[i] with value := s.tallies[i].value + inc }))
        ∧ (s.tallies[i].source i = src → controlUse i 5 s.tallies[i].ctl = 1 → controlUse i 1 s.tallies[i].ctl ≠ 0 →
          ∀ c : Bool,
            c = (if controlUse i 2 s.tallies[i].ctl = 1 then decide (inc < controlUse i 1 s.tallies[i].ctl)
              else decide (controlUse i 1 s.tallies[i].ctl ≤ inc)) →
            (deliver src inc s).tallies[i].edgeMem = c
            ∧ (deliver src inc s).tallies[i].ctl = s.tallies[i].ctl
            ∧ (deliver src inc s).tallies[i].overflow = (s.tallies[i].overflow
                || (c && !(controlUse i 3 s.tallies[i].ctl == 1 && s.tallies[i].edgeMem)
                  && decide (s.tallies[i].value + 1 > 16777215)))
            ∧ (deliver src inc s).tallies[i].value =
                (if c = true ∧ ¬(controlUse i 3 s.tallies[i].ctl = 1 ∧ s.tallies[i].edgeMem = true) then
                  (if s.tallies[i].value + 1 > 16777215 then (s.tallies[i].value + 1) % 16777216
                    else s.tallies[i].value + 1)
                else s.tallies[i].value)))
    ∧ (s.freeze.any = false → ∀ wraps : Prop,
        (wraps ↔ ∃ i : Fin 6, s.tallies[i].source i = src ∧ controlUse i 5 s.tallies[i].ctl = 1
          ∧ controlUse i 4 s.tallies[i].ctl = 1
          ∧ ((controlUse i 1 s.tallies[i].ctl = 0 ∧ s.tallies[i].value + inc > 16777215)
            ∨ (controlUse i 1 s.tallies[i].ctl ≠ 0 ∧ s.tallies[i].value + 1 > 16777215
              ∧ (if controlUse i 2 s.tallies[i].ctl = 1 then inc < controlUse i 1 s.tallies[i].ctl
                else controlUse i 1 s.tallies[i].ctl ≤ inc)
              ∧ ¬(controlUse i 3 s.tallies[i].ctl = 1 ∧ s.tallies[i].edgeMem = true)))) →
        (¬wraps → ∃ ts, deliver src inc s = { s with tallies := ts })
        ∧ (wraps → ∃ ts q, deliver src inc s = { s with
              tallies := ts, freeze := { s.freeze with notify := true }
              panelAlerts := s.panelAlerts.add .tallyTarget, driveAlerts := s.driveAlerts.add .tallyTarget
              engine := { s.engine with queue := q } }
            ∧ (s.settings.cfg 0 = 1 → requested .tally (deliver src inc s).snapshot s.engine.queue q)
            ∧ (s.settings.cfg 0 = 0 → q = s.engine.queue)))

/-! ### The settings store -/

/-- Settings writes of TALLY_CTL, PROFILE, TEMP_TABLE and CONFIG under the open lock with none of the port's pending: the value
is held to its range, joins the queue at its tail, and the answer is queued and carries the value before, the working field for
TALLY_CTL; under the closed lock LOCKED, with one pending BUSY; a TEMP_TABLE write is BAD_VALUE unless the codes of the table, as
it stands once the other port's pending write is made, stay strictly increasing with it, each held to 1023 first (log 24)
(sections 12.2 and 2.8; R33, R183, R184). -/
def Obligations.SettingsWrites : Prop :=
  ∀ (p : Port) (idx : Index) (data : Word) (s : State), takesFrames p s → s.built = true →
    ∀ (c : Instr) (cls : Code) (it : Item) (old : Word),
      ((∃ (t f : Fin 6), c = .writeTallyCtl p idx data ∧ cls = 3 ∧ idx.toNat = t.val * 8 + f.val ∧ it = .tallyCtl t f
          ∧ old = s.tallies[t].ctl[f])
        ∨ (∃ f : Fin 18, c = .writeProfile p idx data ∧ cls = 9 ∧ idx.toNat = f.val ∧ it = .profile s.lpr.programme f
          ∧ old = s.settings.profiles[s.lpr.programme][f])
        ∨ (∃ i : Fin 18, c = .writeTempTable p idx data ∧ cls = 10 ∧ idx.toNat = i.val ∧ it = .temp i
          ∧ old = s.settings.temp[i])
        ∨ (∃ i : Fin 8, c = .writeConfig p idx data ∧ cls = 11 ∧ idx.toNat = i.val ∧ it = .config i
          ∧ old = s.settings.config[i])) →
      (s.settingsOpen = false → exec c s = .next (s.withAnswer p (answerOf 2 .locked idx old .refused)))
      ∧ (s.settingsOpen = true → s.settingsPending p = true →
        exec c s = .next (s.withAnswer p (answerOf 2 .busy idx old .refused)))
      ∧ (s.settingsOpen = true → s.settingsPending p = false → ∀ m, itemRange it = .enum m → m < data.toNat →
        exec c s = .next (s.withAnswer p (answerOf 2 .badValue idx old .refused)))
      ∧ (s.settingsOpen = true → s.settingsPending p = false → (∀ i, it ≠ .temp i) →
        (∀ m, itemRange it = .enum m → data.toNat ≤ m) → ∃ v : Nat,
          v = (match itemRange it with
            | .num lo hi => max lo (min hi data.toNat)
            | _ => data.toNat)
          ∧ exec c s = .next ((serve { s with
              engine := { s.engine with queue := s.engine.queue ++ [.settings p it (BitVec.ofNat 16 v)] } }).withAnswer p
            (answerOf 2 (if v = data.toNat then .ok else .clamped) idx old .queued)))
      ∧ (s.settingsOpen = true → s.settingsPending p = false → ∀ (i : Fin 18) (v : Word), it = .temp i →
        v = (if i.val % 2 = 0 then (if data.toNat ≤ 1023 then data else 1023)
          else if data.toInt < -20 then BitVec.ofInt 16 (-20) else if 150 < data.toInt then 150 else data) →
          (tableFits p it v s = true →
            exec c s = .next ((serve { s with
                engine := { s.engine with queue := s.engine.queue ++ [.settings p it v] } }).withAnswer p
              (answerOf 2 (if v = data then .ok else .clamped) idx old .queued)))
          ∧ (tableFits p it v s = false →
            exec c s = .next (s.withAnswer p (answerOf 2 .badValue idx old .refused)))
          ∧ ∀ (q : Port) (st : Vector Word 18), q ≠ p → tableStands q s st →
            (tableFits p it v s = true ↔
              ∀ k : Fin 8, min 1023 ((st.set i v)[k.val * 2]).toNat < min 1023 ((st.set i v)[k.val * 2 + 2]).toNat))

/-- The end of a settings write: the array holds what it reads back, a TALLY_CTL write moves the working field and drops the edge
memory, a mismatch sets the store fault, SETTINGS_WRITTEN goes to the port that asked (section 12.3; R185). -/
def Obligations.SettingsWriteCompletes : Prop :=
  ∀ (p : Port) (it : Item) (w readBack : Word) (s : State), s.mainRunning = true → s.engine.work = .settings p it w →
    ∃ ts, exec (.settingsWriteComplete readBack) s =
        .next (serve (({ s with
          settings := s.settings.put it readBack, tallies := ts, engine := { s.engine with work := .idle }
          storeFault := s.storeFault || readBack != w } : State).setAlerts p ((s.alerts p).add .settingsWritten)))
      ∧ (∀ i : Fin 6, ts[i] = match it with
          | .tallyCtl t f =>
            if i = t then { s.tallies[t] with ctl := s.tallies[t].ctl.set f readBack, edgeMem := false } else s.tallies[i]
          | _ => s.tallies[i])
      ∧ (s.settings.put it readBack).get it = readBack
      ∧ ∀ other, other ≠ it → (s.settings.put it readBack).get other = s.settings.get other

/-! ### The alert controller -/

/-- A WRITE of a level: the issuing port's level of that source, held to 7, and nothing else; the Panel Port has no level for
TUMBLE_DUE (section 10.6; R169). That the refusal of that level carries data 0 is the model's choice (log 37). -/
def Obligations.AlertLevelWrites : Prop :=
  ∀ (p : Port) (idx : Index) (data : Word) (s : State), takesFrames p s →
    (∀ h : idx.toNat < 13, 1 ≤ idx.toNat → ¬(p = .panel ∧ idx = 7) →
      exec (.writeAlertLevel p idx data) s =
        .next ((s.setAlerts p { s.alerts p with levels := (s.alerts p).levels.set idx.toNat (min 7 data.toNat) }).withAnswer p
          (answerOf 2 (if data.toNat ≤ 7 then .ok else .clamped) idx (BitVec.ofNat 16 (min 7 data.toNat)) .taken)))
    ∧ (p = .panel → idx = 7 →
      exec (.writeAlertLevel p idx data) s = .next (s.withAnswer p (answerOf 2 .badIndex idx 0 .refused)))

/-- SET_MASK: 0 to 7 becomes the issuing port's mask, above 7 sets 7 with CLAMPED, the answer carries the mask; it is taken in
every supply mode and hand-over state, takes effect at once on what is presentable and on the line, and leaves the pending set;
another class is BAD_OBJECT (R168). -/
def Obligations.SetMaskSetsTheMask : Prop :=
  ∀ (p : Port) (cls : Code) (idx : Index) (data : Word) (s : State), takesFrames p s →
    (cls ≠ 8 → exec (.setMask p cls idx data) s = .next (s.withAnswer p (answerOf 5 .badObject idx 0 .refused)))
    ∧ (cls = 8 → ∃ t, exec (.setMask p cls idx data) s = .next t
        ∧ t = (s.setAlerts p { s.alerts p with mask := min 7 data.toNat }).withAnswer p
            (answerOf 5 (if data.toNat ≤ 7 then .ok else .clamped) idx (BitVec.ofNat 16 (min 7 data.toNat)) .taken)
        ∧ (∀ i : Fin 13, (t.alerts p).has i = (s.alerts p).has i)
        ∧ (∀ i : Fin 13, (t.alerts p).presentable i = true ↔
            (s.alerts p).has i = true ∧ (i = 0 ∨ (s.alerts p).levels[i] < min 7 data.toNat))
        ∧ ((t.alerts p).line = true ↔ ∃ i : Fin 13, (t.alerts p).presentable i = true))

/-- TAKE_ALERT returns MAINS_LOSS, else the presentable source of lowest level and then lowest number; an event leaves the set,
SENSOR_FAULT stays with the taken mark while its condition holds; the mask becomes the level of any source but MAINS_LOSS; with
nothing presentable it answers 15 and changes nothing (section 10.5; R165, R166, R167). -/
def Obligations.TakeAlertTakesTheMostUrgent : Prop :=
  ∀ (p : Port) (idx : Index) (data : Word) (s : State), takesFrames p s →
    ((∀ i : Fin 13, (s.alerts p).presentable i = false) →
      exec (.takeAlert p 8 idx data) s = .next (s.withAnswer p (answerOf 4 .ok idx 15 .taken)))
    ∧ ((∃ i : Fin 13, (s.alerts p).presentable i = true) → ∃ (i : Fin 13) (a : Alerts),
        (s.alerts p).presentable i = true
        ∧ ((s.alerts p).presentable 0 = true → i = 0)
        ∧ (i ≠ 0 → ∀ j : Fin 13, (s.alerts p).presentable j = true →
            (s.alerts p).levels[i] < (s.alerts p).levels[j] ∨ ((s.alerts p).levels[i] = (s.alerts p).levels[j] ∧ i ≤ j))
        ∧ exec (.takeAlert p 8 idx data) s =
            .next ((s.setAlerts p a).withAnswer p (answerOf 4 .ok idx (BitVec.ofNat 16 i.val) .taken))
        ∧ a.levels = (s.alerts p).levels
        ∧ a.mask = (if i = 0 then (s.alerts p).mask else (s.alerts p).levels[i])
        ∧ (∀ j : Fin 13, a.has j = ((s.alerts p).has j && (j != i || (i == 2 && s.sensing.fault))))
        ∧ a.taken = (if i = 2 then s.sensing.fault else (s.alerts p).taken))

/-! ### The journal and the store engine -/

/-- CHECKPOINT: in RUN a request of the port's origin at the tail, in FADING with a last gasp due the drive's ends the window with
the LASTGASP request at the head; the answer carries the queue's depth; BUSY while unbuilt or while a request of that origin
waits, else WRONG_STATE (section 3.3; R46, R48, R80). -/
def Obligations.CheckpointsQueueAnEntry : Prop :=
  ∀ (p : Port) (idx : Index) (data : Word) (s : State), takesFrames p s →
    ∀ o : Origin, o = (match p with | .panel => .panel | .drive => .drive) →
    (s.built = false → exec (.checkpoint p 1 idx data) s = .next (s.withAnswer p (answerOf 3 .busy idx 0 .refused)))
    ∧ (s.built = true → s.mayWrite p = false →
      exec (.checkpoint p 1 idx data) s = .next (s.withAnswer p (answerOf 3 .wrongState idx 0 .refused)))
    ∧ (s.built = true → s.mayWrite p = true → s.engine.queue.any (Request.isOrigin o) = true →
      exec (.checkpoint p 1 idx data) s = .next (s.withAnswer p (answerOf 3 .busy idx 0 .refused)))
    ∧ (s.built = true → s.runClosed = true → s.engine.queue.any (Request.isOrigin o) = false →
      exec (.checkpoint p 1 idx data) s =
        .next ((serve { s with
            engine := { s.engine with queue := s.engine.queue ++ [.journal o s.snapshot] } }).withAnswer p
          (answerOf 3 .ok idx (BitVec.ofNat 16 (s.engine.queue.length + 1)) .queued)))
    ∧ (s.built = true → p = .drive → s.lastGaspWrites = true → s.engine.queue.any (Request.isOrigin o) = false →
      s.engine.queue.any (Request.isOrigin .lastgasp) = false →
      exec (.checkpoint p 1 idx data) s =
        .next ((serve { s with
            mains := { s.mains with lastGasp := .requested, window := none }
            engine := { s.engine with queue := .journal .lastgasp s.snapshot :: s.engine.queue } }).withAnswer p
          (answerOf 3 .ok idx (BitVec.ofNat 16 (s.engine.queue.length + 1)) .queued)))

/-- An entry commits: its slot becomes COMPLETE with the request's snapshot, every other slot stands; CHECKPOINT_DONE goes to the
asking port or to both; TALLY removes NOTIFY; LASTGASP ends FADING, into HELD, or into RUN with an evaluation where a
qualification is pending (section 3.2; R37, R42, R27, R81). -/
def Obligations.EntriesCommit : Prop :=
  ∀ (pos : Fin 16) (n : Word) (o : Origin) (b : Snapshot) (s u : State), s.mainRunning = true →
    s.engine.work = .entry pos n o b →
    u = { s with
      journal := s.journal.set pos ⟨false, true, n, ~~~n, o, b, some n⟩, engine := { s.engine with work := .idle } } →
    u.journal[pos].state = .complete
    ∧ (o = .panel → exec .entryCommit s = .next (serve (u.setAlerts .panel (s.panelAlerts.add .checkpointDone))))
    ∧ (o = .drive → exec .entryCommit s = .next (serve (u.setAlerts .drive (s.driveAlerts.add .checkpointDone))))
    ∧ (o = .phase ∨ o = .resume →
      exec .entryCommit s = .next (serve { u with
        panelAlerts := s.panelAlerts.add .checkpointDone, driveAlerts := s.driveAlerts.add .checkpointDone }))
    ∧ (o = .tally →
      exec .entryCommit s = .next (serve { u with
        panelAlerts := s.panelAlerts.add .checkpointDone, driveAlerts := s.driveAlerts.add .checkpointDone
        freeze := { s.freeze with notify := false } }))
    ∧ (o = .lastgasp → s.mains.mode = .fading → s.mains.qualPending = false →
      exec .entryCommit s = .next (serve { u with
        panelAlerts := s.panelAlerts.add .checkpointDone, driveAlerts := s.driveAlerts.add .checkpointDone
        mains := { s.mains with mode := .held, lastGasp := .none, window := none } }))
    ∧ (o = .lastgasp → s.mains.mode = .fading → s.mains.qualPending = true →
      ∃ t, exec .entryCommit s = .next t ∧ t.mains.mode = .run ∧ t.mains.lastGasp = .none ∧ t.mains.qualPending = false
        ∧ t.freeze = { s.freeze with loss := false, ret := true } ∧ t.handover.state = .evaluating ∧ t.plan = none
        ∧ t.journal = u.journal ∧ t.settings = s.settings ∧ t.panelPort = s.panelPort ∧ t.drivePort = s.drivePort)

/-- The scan ends (sections 1.9, 3.4, 6.8, 8.2; R15, R16, R36, R53, R54, R55, R84, R105, R132). The newest slot with a valid header
gives the current number `c` and, one slot on, the write position; the torn-skipped count `n` counts the OPEN slots later than the
newest COMPLETE entry, or all of them; 1 or more raises TORN_FOUND; a chain whose key was to come from the scan takes `c` (that it
waits on a mark of its own: log 31). The record, the tallies and the scheduler's counts are built from the newest COMPLETE entry
`e`, or are Table 1-5's defaults. Outside an evaluation RETURN leaves the freeze set; in one a matching flushed copy is adopted
first, the plan of the kept inputs is published, and its verdict moves the hand-over: NONE closes the chain, END writes DONE and
closes it, AUTO and HOLD offer the plan. -/
def Obligations.ScansBuildTheRecord : Prop :=
  ∀ s : State, s.mainRunning = true → s.engine.work = .scanning →
    ∃ (u v : State) (c : Option Word) (wp : Fin 16) (n m : Nat) (e : Option Entry) (sm : Summary) (l : Lpr) (ts : Vector Tally 6),
      exec .scanComplete s = .next (serve u)
      ∧ (∀ i : Fin 16, newestWith Slot.headed s.journal i → c = some s.journal[i].seqNo ∧ wp = i + 1)
      ∧ ((∀ i : Fin 16, ¬s.journal[i].headed) → c = none ∧ wp = 0)
      ∧ (∀ i : Fin 16, newestWith Slot.whole s.journal i → e = some ⟨s.journal[i].seqNo, s.journal[i].body⟩)
      ∧ ((∀ i : Fin 16, ¬s.journal[i].whole) → e = none)
      ∧ n = min 15 ((List.finRange 16).countP fun k => decide (s.journal[k].state = .opened) && (match e with
          | some x => decide (1 ≤ (s.journal[k].seqNo - x.seqNo).toNat ∧ (s.journal[k].seqNo - x.seqNo).toNat ≤ 32767)
          | none => true))
      ∧ (∀ x, e = some x →
          l = { programme := x.body.programme, options := x.body.options, runReq := x.body.runReq, phase := x.body.phase
                deficit := x.body.deficit, phaseClock := x.body.phaseClock, partMs := 0, temp := l.temp, stale := l.stale }
          ∧ ∀ k : Fin 6, ts[k] = { s.tallies[k] with value := x.body.tallies[k], overflow := false })
      ∧ (e = none →
          l = { programme := 0, options := ⟨false, false, false⟩, runReq := .stopped, phase := .idle, deficit := 0
                phaseClock := 0, partMs := 0, temp := l.temp, stale := l.stale }
          ∧ ∀ k : Fin 6, ts[k] = { s.tallies[k] with value := 0, overflow := false })
      ∧ l.temp = s.sensing.lastTemp.getD (s.refs.temp.getD 0) ∧ l.stale = (s.lpr.stale || s.sensing.lastTemp.isNone)
      ∧ v = { s with
        engine := { s.engine with work := .idle, curSeq := c, writePos := some wp, torn := n }
        panelAlerts := if 1 ≤ n then s.panelAlerts.add .tornFound else s.panelAlerts
        driveAlerts := if 1 ≤ n then s.driveAlerts.add .tornFound else s.driveAlerts
        outage := { s.outage with summary := sm, keyFromScan := s.outage.keyFromScan && !s.outage.chainOpen }
        built := true, lpr := l, tallies := ts
        sched := { s.sched with
          nextDir := (e.map fun x => x.body.nextDir).getD .cw, pulsesDone := (e.map fun x => x.body.pulsesDone).getD 0
          missed := (e.map fun x => x.body.missed).getD 0 } }
      ∧ (∀ sm0, sm0 = { s.outage.summary with
            matchKey := if s.outage.chainOpen = true ∧ s.outage.keyFromScan = true then c else s.outage.summary.matchKey } →
          (s.handover.state ≠ .evaluating → sm = sm0 ∧ u = { v with freeze := { s.freeze with ret := false } })
          ∧ (s.handover.state = .evaluating →
            ¬(sm0.quality = .unknown ∧ s.flushedCopy.flushed = true ∧ s.flushedCopy.quality = .lowerBound
              ∧ s.flushedCopy.matchKey.isSome = true ∧ s.flushedCopy.matchKey = c) → sm = sm0)
          ∧ (s.handover.state = .evaluating → sm0.quality = .unknown → s.flushedCopy.flushed = true →
            s.flushedCopy.quality = .lowerBound → s.flushedCopy.matchKey.isSome = true → s.flushedCopy.matchKey = c →
            sm = { sm0 with
              duration := min 65535 (sm0.duration + s.flushedCopy.duration), quality := .lowerBound
              doorOpened := sm0.doorOpened || s.flushedCopy.doorOpened
              doorOpenSec := min 65535 (sm0.doorOpenSec + s.flushedCopy.doorOpenSec)
              quarters := min 65535 (sm0.quarters + s.flushedCopy.quarters)
              net := max (-32768) (min 32767 (sm0.net + s.flushedCopy.net))
              uncertain := sm0.uncertain || s.flushedCopy.uncertain
              lastTemp := if sm0.lastTemp.isSome then sm0.lastTemp else s.flushedCopy.lastTemp
              backupLow := sm0.backupLow || s.flushedCopy.backupLow
              itemsLost := min 255 (sm0.itemsLost + s.flushedCopy.itemsLost), flushed := true }))
      ∧ (s.handover.state = .evaluating → s.handover.late = false → ∀ (pl : Plan) (x : State),
          pl = (({ s with outage := { s.outage with summary := sm } } : State).evalIn ⟨e, c, n⟩ false).plan 1 →
          planPublished pl false { v with kept := some ⟨e, c, n⟩, freeCount := m } x →
          (pl.verdict = .auto → u = { x with handover := { s.handover with state := .offeredAuto } })
          ∧ (pl.verdict = .hold → u = { x with handover := { s.handover with state := .offeredHold } })
          ∧ (pl.verdict = .none → chainClosed x u)
          ∧ (pl.verdict = .ended → ∃ y, partWroteDone .phase x y ∧ chainClosed y u))

/-- The engine takes its next work when it is IDLE in a running main domain: a due flush first, then a due scan, then the head of
the queue; an entry takes the next number and the write position, which moves on, and a LASTGASP entry hands its number to the
chain as match key (sections 3.1, 3.2; R39, R40, R41, R51, R52, R55). That a journal request before the first scan waits is the
model's choice (log 13). -/
def Obligations.ServeTakesTheNextWork : Prop :=
  ∀ s : State,
    (s.mainRunning = false ∨ s.engine.work ≠ .idle ∨ s.seq.backupFlush = true → serve s = s)
    ∧ (s.mainRunning = true → s.engine.work = .idle → s.seq.backupFlush = false →
      (s.seq.flushCopy.isSome = true → serve s = { s with engine := { s.engine with work := .flush } })
      ∧ (s.seq.flushCopy = none → s.engine.scanDue = true →
        serve s = { s with engine := { s.engine with work := .scanning, scanDue := false } })
      ∧ (s.seq.flushCopy = none → s.engine.scanDue = false → s.engine.queue = [] → serve s = s)
      ∧ (∀ p it w rest, s.seq.flushCopy = none → s.engine.scanDue = false → s.engine.queue = .settings p it w :: rest →
        serve s = { s with engine := { s.engine with work := .settings p it w, queue := rest } })
      ∧ (∀ o b rest pos, s.seq.flushCopy = none → s.engine.scanDue = false → s.engine.queue = .journal o b :: rest →
        s.engine.writePos = some pos → ∃ n : Word, n = (match s.engine.curSeq with | none => 1 | some m => m + 1)
          ∧ serve s = { s with
            engine := { s.engine with
              work := .entry pos n o b, queue := rest, curSeq := some n, writePos := some (pos + 1) }
            outage := { s.outage with
              summary := { s.outage.summary with
                matchKey := if o = .lastgasp then some n else s.outage.summary.matchKey } } })
      ∧ (∀ o b rest, s.seq.flushCopy = none → s.engine.scanDue = false → s.engine.queue = .journal o b :: rest →
        s.engine.writePos = none → serve s = s))

/-! ### The hand-over -/

/-- A panel CONFIRM in OFFERED_HOLD: the recomputation that carries the confirmation is published with VERDICT_READY, and
PLAN_CHANGED where a decision field differs; AUTO or HOLD gives CONFIRMED, END is carried out; the answer is the verdict code; in
the other states WRONG_STATE, from the Drive Port NOT_OWNER, with the state code (section 8.3; R133, R134, R135). -/
def Obligations.ConfirmRecomputes : Prop :=
  ∀ (idx : Index) (data : Word) (s : State),
    (takesFrames .panel s → s.handover.state = .offeredHold → ∀ k pl, s.kept = some k →
      pl = (s.evalIn k true).plan (min 255 ((s.plan.map Plan.evalCount).getD 0 + 1)) →
      (∀ changed : Bool, changed = !((s.plan.map (fun old => old.sameDecision pl)).getD false) →
        pl.verdict = .auto ∨ pl.verdict = .hold →
        exec (.confirm .panel 6 idx data) s =
          .next ((serve { s with
            plan := some pl, handover := { s.handover with state := .confirmed }
            panelAlerts := if changed then (s.panelAlerts.add .verdictReady).add .planChanged
              else s.panelAlerts.add .verdictReady
            driveAlerts := if changed then (s.driveAlerts.add .verdictReady).add .planChanged
              else s.driveAlerts.add .verdictReady }).withAnswer .panel
            (answerOf 6 .ok idx (BitVec.ofNat 16 pl.verdict.code) .taken)))
      ∧ (pl.verdict = .ended →
        ∃ t, exec (.confirm .panel 6 idx data) s = .next t ∧ t.plan = some pl ∧ t.handover.state = .closed
          ∧ t.outage.chainOpen = false ∧ t.lpr.phase = .done ∧ t.freeze.ret = false ∧ t.kept = none
          ∧ t.panelPort = { s.panelPort with allOnes := false, resp := some (answerOf 6 .ok idx 3 .taken) }
          ∧ t.drivePort = s.drivePort ∧ t.settings = s.settings ∧ t.journal = s.journal))
    ∧ (takesFrames .panel s → s.handover.state ≠ .offeredHold →
      exec (.confirm .panel 6 idx data) s =
        .next (s.withAnswer .panel (answerOf 6 .wrongState idx (BitVec.ofNat 16 s.handover.state.code) .refused)))
    ∧ (takesFrames .drive s →
      exec (.confirm .drive 6 idx data) s =
        .next (s.withAnswer .drive (answerOf 6 .notOwner idx (BitVec.ofNat 16 s.handover.state.code) .refused)))

/-- A drive ACCEPT in OFFERED_AUTO or CONFIRMED that names the standing plan, or data 0: the plan is applied, the hand-over closes
and a RESUME request carries the applied state; where the target differs from the built phase a PHASE request carries the state after
the whole apply (that it comes after the plan start: DEDUCED, log 34), and the close of a chain that LOSS opened and that lasted 1 s
or less is a MAINS_DIPS occurrence; with another count BAD_VALUE (sections 8.3, 8.5, 8.6; R19, R34, R134, R136, R140, R142, R150). -/
def Obligations.AcceptAppliesThePlan : Prop :=
  ∀ (idx : Index) (data : Word) (pl : Plan) (s : State), takesFrames .drive s →
    s.handover.state = .offeredAuto ∨ s.handover.state = .confirmed → s.plan = some pl →
    (data ≠ 0 → data.toNat ≠ pl.evalCount →
      exec (.accept .drive 6 idx data) s =
        .next (s.withAnswer .drive (answerOf 7 .badValue idx (BitVec.ofNat 16 s.handover.state.code) .refused)))
    ∧ (data = 0 ∨ data.toNat = pl.evalCount → ∃ u v,
      exec (.accept .drive 6 idx data) s =
        .next ((serve u).withAnswer .drive (answerOf 7 .ok idx (BitVec.ofNat 16 pl.evalCount) .taken))
      ∧ u.handover.state = .closed ∧ u.kept = none ∧ u.plan = s.plan ∧ u.outage.chainOpen = false ∧ u.outage.fresh = false
      ∧ u.freeze.ret = false ∧ u.lpr.deficit = pl.dPrime ∧ Request.journal .resume u.snapshot ∈ u.engine.queue
      ∧ u.settings = s.settings ∧ u.journal = s.journal ∧ u.mains = s.mains ∧ u.panelPort = s.panelPort
      ∧ chainClosed v u
      ∧ (pl.target = .heat ∨ pl.target = .cool ∨ (pl.target = .anticrease ∧ 0 < pl.windowRem) →
          (s.lpr.phase = pl.target → v.engine = s.engine) ∧ (s.lpr.phase ≠ pl.target → phaseRequested s v)
          ∧ (∀ i : Fin 6, pl.target ≠ .heat ∨ s.settings.cfg 1 ≠ i.val → v.tallies[i] = s.tallies[i])
          ∧ (∀ r ∈ v.engine.queue, r.isOrigin .resume = false → r.isOrigin .tally = false → r ∈ u.engine.queue))
      ∧ (pl.target = .heat → u.lpr.phase = .heat ∧ u.lpr.phaseClock = 0 ∧ u.lpr.partMs = 0 ∧ u.lpr.runReq = .run
          ∧ ∀ i : Fin 6, s.settings.cfg 1 = i.val →
            u.tallies[i].value = 16777216 - pl.heatSec ∧ u.tallies[i].overflow = false ∧ u.preloaded = some i
            ∧ u.tallies[i].ctl[0] = 1 ∧ u.tallies[i].ctl[1] = 0 ∧ u.tallies[i].ctl[4] = 1 ∧ u.tallies[i].ctl[5] = 1)
      ∧ (pl.target = .cool → u.lpr.phase = .cool ∧ u.lpr.phaseClock = 0 ∧ u.lpr.partMs = 0 ∧ u.lpr.runReq = .run)
      ∧ (pl.target = .anticrease → 0 < pl.windowRem →
          u.lpr.phase = .anticrease ∧ u.lpr.phaseClock = pl.elapsed ∧ u.lpr.runReq = .run ∧ u.sched.missed = 0
          ∧ u.sched.windowEnd = pl.elapsed + pl.windowRem
          ∧ (0 < pl.recovery → u.sched.state = .recovery ∧ u.sched.remaining = pl.recovery * 1000
              ∧ u.sched.pulseDir = pl.nextDir ∧ u.sched.nextDir = pl.nextDir.opposite
              ∧ u.driveAlerts.has Alert.tumbleDue.num = true)
          ∧ (pl.recovery = 0 → u.sched.state = .resting ∧ u.sched.remaining = pl.offset * 1000
              ∧ u.sched.nextDir = pl.nextDir)))

/-- A panel DECLINE of an offer writes DONE, closes the hand-over (a chain that LOSS opened and that lasted 1 s or less is a
MAINS_DIPS occurrence) and leaves the plan readable; in CLOSED and EVALUATING WRONG_STATE. From the other controller's port DECLINE
and ACCEPT are NOT_OWNER, and a drive ACCEPT outside OFFERED_AUTO and CONFIRMED is WRONG_STATE, each with the state code (section
8.3; R134, R137, R142). -/
def Obligations.DeclineEndsTheProgramme : Prop :=
  ∀ (idx : Index) (data : Word) (s : State),
    (takesFrames .drive s →
      exec (.decline .drive 6 idx data) s =
        .next (s.withAnswer .drive (answerOf 8 .notOwner idx (BitVec.ofNat 16 s.handover.state.code) .refused)))
    ∧ (takesFrames .panel s →
      exec (.accept .panel 6 idx data) s =
        .next (s.withAnswer .panel (answerOf 7 .notOwner idx (BitVec.ofNat 16 s.handover.state.code) .refused)))
    ∧ (takesFrames .drive s → s.handover.state ≠ .offeredAuto → s.handover.state ≠ .confirmed →
      exec (.accept .drive 6 idx data) s =
        .next (s.withAnswer .drive (answerOf 7 .wrongState idx (BitVec.ofNat 16 s.handover.state.code) .refused)))
    ∧ (takesFrames .panel s → s.handover.state.offering = true → ∃ v u, partWroteDone .phase s v
      ∧ exec (.decline .panel 6 idx data) s = .next ((serve u).withAnswer .panel (answerOf 8 .ok idx 0 .taken))
      ∧ chainClosed v u ∧ u.lpr = v.lpr ∧ u.plan = s.plan ∧ u.handover.state = .closed ∧ u.kept = none ∧ u.outage.chainOpen = false
      ∧ u.freeze.ret = false ∧ Request.journal .resume u.snapshot ∈ u.engine.queue ∧ u.settings = s.settings
      ∧ u.journal = s.journal ∧ u.mains = s.mains ∧ u.drivePort = s.drivePort ∧ u.sched = v.sched)
    ∧ (takesFrames .panel s → s.handover.state.offering = false →
      exec (.decline .panel 6 idx data) s =
        .next (s.withAnswer .panel (answerOf 8 .wrongState idx (BitVec.ofNat 16 s.handover.state.code) .refused)))

/-- A new log item at the hand-over (section 8.4; R112, R128, R133, R138): nothing in CLOSED and OFFERED_HOLD; in EVALUATING the
late-item mark once the inputs are taken; in CONFIRMED a door item withdraws the confirmation with PLAN_CHANGED; in OFFERED_AUTO
the recomputation without the confirmation is published with the next count, and PLAN_CHANGED where a decision field differs: AUTO
stays, HOLD is offered, END is carried out. The close of sensing's burst is such an item. -/
def Obligations.NewLogItemsReachTheHandOver : Prop :=
  (∀ (k : ItemKind) (s : State),
    (s.handover.state = .closed ∨ s.handover.state = .offeredHold → newLogItem k s = s)
    ∧ (s.handover.state = .evaluating → s.engine.scanDue = true ∨ s.engine.work = .scanning → newLogItem k s = s)
    ∧ (s.handover.state = .evaluating → s.engine.scanDue = false → s.engine.work ≠ .scanning →
      newLogItem k s = { s with handover := { s.handover with late := true } })
    ∧ (s.handover.state = .confirmed → k = .doorOpen ∨ k = .doorClose →
      newLogItem k s = { s with
        handover := { s.handover with state := .offeredHold }
        panelAlerts := s.panelAlerts.add .planChanged, driveAlerts := s.driveAlerts.add .planChanged })
    ∧ (s.handover.state = .confirmed → k ≠ .doorOpen → k ≠ .doorClose → newLogItem k s = s)
    ∧ (s.handover.state = .offeredAuto → ∀ (kp : Kept) (old pl : Plan) (v : State), s.kept = some kp → s.plan = some old →
      pl = (s.evalIn kp false).plan (min 255 (old.evalCount + 1)) → planPublished pl (!old.sameDecision pl) s v →
      (pl.verdict = .auto → newLogItem k s = v)
      ∧ (pl.verdict = .hold → newLogItem k s = { v with handover := { s.handover with state := .offeredHold } })
      ∧ (pl.verdict = .ended → ∃ x, partWroteDone .phase v x ∧ chainClosed x (newLogItem k s))))
  ∧ (∀ a b : Plan, a.sameDecision b = true ↔
    a.verdict = b.verdict ∧ a.reasons = b.reasons ∧ a.target = b.target ∧ a.cls = b.cls ∧ a.dPrime = b.dPrime
      ∧ a.rawHeat = b.rawHeat ∧ a.credit = b.credit ∧ a.heatSec = b.heatSec ∧ a.coolSec = b.coolSec ∧ a.elapsed = b.elapsed
      ∧ a.windowRem = b.windowRem ∧ a.offset = b.offset ∧ a.recovery = b.recovery)
  ∧ ∀ s : State, s.mainRunning = true → ∃ u, burstClosed s u ∧ exec .drumBurstClose s = .next (serve u)

/-- The heat permit (section 8.9; R144, R145): HPM is high exactly while all its conditions hold; so it is low after a loss
declaration, a phase write away from HEAT, a run request of PAUSED or STOPPED, a door opening, a faulted conversion and one at or
above the exhaust limit, and rises at a write of HEAT that completes them; READ STATUS 15 shows it. That the main domain must run is
the model's way of saying that HPM is unpowered without it (log 19). -/
def Obligations.HeatPermitFollowsItsConditions : Prop :=
  ∀ s : State,
    (s.hpm = true ↔ s.mainRunning = true ∧ s.mains.mode = .run ∧ s.handover.state = .closed ∧ s.lpr.phase = .heat
      ∧ s.lpr.runReq = .run ∧ s.sensing.door = some .closed ∧ s.sensing.fault = false ∧ s.sensing.lastTemp ≠ none
      ∧ s.handover.overLimit = false)
    ∧ (s.mainRunning = true → s.mains.mode = .run → ∃ t, exec .lossDeclaration s = .next t ∧ t.hpm = false)
    ∧ (∀ ph : Phase, takesFrames .drive s → s.built = true → s.mayWrite .drive = true → ph ≠ .heat →
      driveMayWritePhase s.lpr.phase ph s.lpr.runReq →
      ∃ t, exec (.writePhase .drive (BitVec.ofNat 16 ph.code)) s = .next t ∧ t.hpm = false)
    ∧ (∀ r : RunReq, takesFrames .panel s → s.built = true → s.runClosed = true → r ≠ .run →
      ∃ t, exec (.writeRunRequest .panel (BitVec.ofNat 16 r.code)) s = .next t ∧ t.hpm = false)
    ∧ (s.mainRunning = true → s.sensing.door ≠ none → ∃ t, exec (.doorChange true) s = .next t ∧ t.hpm = false)
    ∧ (∀ code : BitVec 10, s.mainRunning = true → code.toNat < 16 ∨ 1007 < code.toNat →
      ∃ t, exec (.thermistorConversion code) s = .next t ∧ t.hpm = false)
    ∧ (∀ code : BitVec 10, s.mainRunning = true → 16 ≤ code.toNat → code.toNat ≤ 1007 →
      (s.settings.cfg 7 : Int) ≤ temperatureOf s.settings.temp code →
      ∃ t, exec (.thermistorConversion code) s = .next t ∧ t.hpm = false)
    ∧ (takesFrames .drive s → s.built = true → s.runClosed = true → s.lpr.runReq = .run →
      s.lpr.phase = .idle ∨ s.lpr.phase = .done → s.sensing.door = some .closed → s.sensing.fault = false →
      s.sensing.lastTemp ≠ none → s.handover.overLimit = false →
      ∃ t, exec (.writePhase .drive 1) s = .next t ∧ t.hpm = true)
    ∧ ∀ (p : Port) (data : Word), takesFrames p s → readGives p 12 15 data s .ok (if s.hpm then 1 else 0)

/-- What an automatic heat phase rests on (sections 7.3 to 7.6; R118, R119, R123, R124, R34): only an entry in HEAT, with the door
not opened, an outage of class SHORT or MEDIUM, an undisturbed drum, auto_resume set and RUN or a confirmation; the planned heat
of any offered heat phase lies between 1 s and the profile's cap. An UNKNOWN outage never resumes. -/
def Obligations.AutomaticHeatIsGuarded : Prop :=
  ∀ (i : EvalIn) (e : Entry) (n : Nat), i.entry = some e → 1 ≤ i.prof.secPerUnit → 60 ≤ i.prof.hCap →
    ((i.plan n).verdict ≠ .none → (i.plan n).target = .heat →
      1 ≤ (i.plan n).heatSec ∧ (i.plan n).heatSec ≤ i.prof.hCap)
    ∧ ((i.plan n).verdict = .auto → (i.plan n).target = .heat →
      e.body.phase = .heat ∧ i.doorOpened = false ∧ (i.cls = .short ∨ i.cls = .medium) ∧ i.uncertain = false
      ∧ i.quarters ≤ i.prof.disturb ∧ i.prof.autoResume ≠ 0 ∧ (e.body.runReq = .run ∨ i.confirmed = true))
    ∧ (i.cls = .unknown → (i.plan n).verdict = .none ∨ (i.plan n).verdict = .ended)

/-- What the evaluator decides (sections 7.3 to 7.8; R116, R117, R119 to R126). The class by quality and T_out; without an entry NONE,
and of a KNOWN outage's class only what every profile gives (which class else is free, log 11). With an entry: NONE for IDLE, DONE
and STOPPED; END for an UNKNOWN outage; for HEAT the abandon, the dry or the heat branch by the deficit after regain; for COOL the
load already cooled or the cooling still owed; for ANTICREASE the end on a door opening or an option, or the remainder. That a COOL
entry going on to anti-crease is held by a door opening, not ended, is R125 read against R139's table (log 42). -/
def Obligations.DecisionsFollowTheEntry : Prop :=
  (∀ (i : EvalIn) (n : Nat), i.entry = none →
    (i.plan n).verdict = .none ∧ (i.plan n).target = .idle ∧ (i.plan n).dPrime = 0 ∧ (i.plan n).sourceSeq = none
    ∧ reasonsAre i [] (i.plan n) ∧ (i.quality = .unknown → i.cls = .unknown) ∧ (i.quality = .lowerBound → i.cls = .long)
    ∧ (i.quality = .known → (i.tOut = 0 → i.cls = .short) ∧ (600 < i.tOut → i.cls ≠ .short) ∧ (43200 < i.tOut → i.cls = .long)))
  ∧ ∀ (i : EvalIn) (en : Entry) (n : Nat) (p : Plan), i.entry = some en → p = i.plan n →
    i.cls = (match i.quality with
      | .unknown => .unknown
      | .lowerBound => .long
      | .known => if i.tOut ≤ i.prof.sShort then .short else if i.tOut ≤ i.prof.lHeat * 60 then .medium else .long)
    ∧ p.evalCount = n ∧ p.tOut = i.tOut ∧ p.cls = i.cls ∧ p.nextDir = en.body.nextDir ∧ p.programme = en.body.programme
    ∧ p.options = en.body.options ∧ p.sourceSeq = some en.seqNo ∧ p.tRet = i.tRet
    ∧ (p.target ≠ .heat → p.rawHeat = 0 ∧ p.credit = 0 ∧ p.heatSec = 0) ∧ (p.target ≠ .cool → p.coolSec = 0)
    ∧ (¬en.body.resumable →
      p.verdict = .none ∧ p.target = en.body.phase ∧ p.dPrime = en.body.deficit ∧ reasonsAre i [] p)
    ∧ (en.body.resumable → i.cls = .unknown → endsWith i en.body.deficit [(true, 4)] p)
    ∧ (en.body.resumable → i.cls ≠ .unknown → ∀ (hot cooled paused : Bool) (d : Nat),
      hot = (match i.tRet with | some t => decide ((i.prof.tCool : Int) < t) | none => false) →
      cooled = (match i.tRet with | some t => decide (t ≤ (i.prof.tCool : Int)) | none => false) →
      paused = (decide (en.body.runReq = .paused) && !i.confirmed) →
      d = min 1000 (en.body.deficit + if i.cls = .short then 0
        else i.tOut * (if i.doorOpened then i.prof.rOpened else i.prof.rClosed) / 3600) →
      (en.body.phase = .heat → i.prof.dAbandon < d →
        (hot = true → 1 ≤ i.prof.coolMin → p.verdict = .hold ∧ p.target = .cool ∧ p.dPrime = d ∧ reasonsAre i [(true, 16)] p
          ∧ p.coolSec = i.prof.coolMin)
        ∧ (hot = false ∨ i.prof.coolMin = 0 → endsWith i d [(true, 16)] p))
      ∧ (en.body.phase = .heat → d ≤ i.prof.dAbandon → d = 0 →
        (hot = true → 1 ≤ i.prof.coolMin →
          offers i .cool 0 [] [(i.doorOpened, 1), (paused, 512)] p ∧ p.coolSec = i.prof.coolMin)
        ∧ (hot = false ∨ i.prof.coolMin = 0 →
          (i.doorOpened = true → endsWith i 0 [(cooled, 2048), (true, 1)] p)
          ∧ (i.doorOpened = false → en.body.options.noAnticrease = true → endsWith i 0 [(cooled, 2048)] p)
          ∧ (i.doorOpened = false → en.body.options.noAnticrease = false →
            remainderIs i en.body.options 0 0 [(cooled, 2048)] [(paused, 512)] p)))
      ∧ (en.body.phase = .heat → d ≤ i.prof.dAbandon → d ≠ 0 →
        offers i .heat d [] [(i.doorOpened, 1), (decide (i.cls = .long), 2),
          (decide (i.prof.disturb < i.quarters ∨ i.uncertain = true), 8), (decide (i.prof.autoResume = 0), 256), (paused, 512)] p
        ∧ p.rawHeat = d * i.prof.secPerUnit
        ∧ p.credit = min (match i.tRet with
            | some t => (t - i.prof.tRef).toNat * i.prof.creditRate
            | none => 0) (p.rawHeat / 2)
        ∧ p.heatSec = min i.prof.hCap (p.rawHeat - p.credit))
      ∧ (en.body.phase = .cool → cooled = true →
        (en.body.options.noAnticrease = true → endsWith i en.body.deficit [(true, 2048)] p)
        ∧ (en.body.options.noAnticrease = false →
          remainderIs i en.body.options en.body.deficit (min i.tOut (windowSec i en.body.options)) [(true, 2048)]
            [(i.doorOpened, 1), (paused, 512)] p))
      ∧ (en.body.phase = .cool → cooled = false →
        offers i .cool en.body.deficit [] [(i.doorOpened, 1), (paused, 512)] p
        ∧ p.coolSec = max 60 (i.prof.coolMin - en.body.phaseClock))
      ∧ (en.body.phase = .anticrease →
        (i.doorOpened = true → endsWith i en.body.deficit [(true, 1)] p)
        ∧ (i.doorOpened = false → en.body.options.noAnticrease = true → endsWith i en.body.deficit [] p)
        ∧ (i.doorOpened = false → en.body.options.noAnticrease = false →
          remainderIs i en.body.options en.body.deficit (min 65535 (en.body.phaseClock + i.tOut)) [] [(paused, 512)] p)))

/-! ### The anti-crease scheduler -/

/-- TUMBLE_ACK: in DUE the tumble starts, missed in a row clears, the next direction turns and a TUMBLE_PULSES occurrence is
delivered, the answer is U_eff; in another state WRONG_STATE, from the Panel Port NOT_OWNER, with the state code
(section 9.3; R153). -/
def Obligations.TumbleAckStartsThePulse : Prop :=
  ∀ (idx : Index) (data : Word) (s : State),
    (takesFrames .drive s → s.sched.state = .due →
      exec (.tumbleAck .drive 7 idx data) s =
        .next ((serve (deliver .tumblePulses 1 { s with
          sched := { s.sched with
            state := .tumbling, remaining := s.sched.tumbleLen * 1000, missed := 0
            nextDir := s.sched.pulseDir.opposite } })).withAnswer .drive
          (answerOf 12 .ok idx (BitVec.ofNat 16 s.sched.tumbleLen) .taken)))
    ∧ (takesFrames .drive s → s.sched.state ≠ .due →
      exec (.tumbleAck .drive 7 idx data) s =
        .next (s.withAnswer .drive (answerOf 12 .wrongState idx (BitVec.ofNat 16 s.sched.state.code) .refused)))
    ∧ (takesFrames .panel s →
      exec (.tumbleAck .panel 7 idx data) s =
        .next (s.withAnswer .panel (answerOf 12 .notOwner idx (BitVec.ofNat 16 s.sched.state.code) .refused)))

/-- The expiries of RESTING, DUE, TUMBLING and RECOVERY while the timing runs (section 9.3; R151, R152, R154, R155, R156). -/
def Obligations.SchedulerExpiries : Prop :=
  ∀ s : State, s.mainRunning = true → s.schedRuns = true →
    (s.sched.state = .resting → s.lpr.phaseClock < s.sched.windowEnd →
      exec .restExpiry s = .next (serve { s with
        sched := { s.sched with state := .due, remaining := 3000, pulseDir := s.sched.nextDir }
        driveAlerts := s.driveAlerts.add .tumbleDue }))
    ∧ (s.sched.state = .resting → s.sched.windowEnd ≤ s.lpr.phaseClock →
      ∃ u, schedulerEnded .window s u ∧ exec .restExpiry s = .next (serve u))
    ∧ (s.sched.state = .due → s.sched.missed < 2 → ∃ u,
      restedOrEnded (s.sched.period * 1000) { s with sched := { s.sched with missed := s.sched.missed + 1 } } u
        ∧ exec .tumbleAckTimeout s = .next (serve u))
    ∧ (s.sched.state = .due → 2 ≤ s.sched.missed → ∃ u,
      schedulerEnded .noDrive { s with sched := { s.sched with missed := 3 } } u ∧ exec .tumbleAckTimeout s = .next (serve u))
    ∧ (s.sched.state = .tumbling → ∃ u,
      restedOrEnded ((s.sched.period - s.sched.tumbleLen) * 1000)
          { s with sched := { s.sched with pulsesDone := min 255 (s.sched.pulsesDone + 1) } } u
        ∧ exec .tumbleComplete s = .next (serve u))
    ∧ (s.sched.state = .recovery → ∃ u, restedOrEnded (s.sched.period * 1000) s u
        ∧ exec .recoveryEnd s = .next (serve u))

/-- A counted second of the phase clock, in the order clock, occurrence, window test (DEDUCED, log 33): the clock goes up to at most
65535 with a RUN_SECONDS occurrence, and in RESTING and DUE the window test ends the scheduler with WINDOW at the window end
(sections 1.7, 9.3; R14, R151). -/
def Obligations.PhaseClockCounts : Prop :=
  ∀ s v : State, s.mainRunning = true → s.clockCounts = true →
    v = deliver .runSeconds 1
      { s with lpr := { s.lpr with phaseClock := min 65535 (s.lpr.phaseClock + 1), partMs := 0 } } →
    v.lpr = { s.lpr with phaseClock := min 65535 (s.lpr.phaseClock + 1), partMs := 0 } ∧ v.sched = s.sched
    ∧ ((s.sched.state = .resting ∨ s.sched.state = .due) ∧ s.sched.windowEnd ≤ min 65535 (s.lpr.phaseClock + 1) →
      ∃ u, schedulerEnded .window v u ∧ exec .phaseClockSecond s = .next (serve u))
    ∧ (¬((s.sched.state = .resting ∨ s.sched.state = .due) ∧ s.sched.windowEnd ≤ min 65535 (s.lpr.phaseClock + 1)) →
      exec .phaseClockSecond s = .next (serve v))

/-! ### The mains supervisor -/

/-- ZCS pulses that do not make mains qualify, and the events of FADING. A pulse closer than 7 ms is disregarded, from 7 to 13 ms it
adds to the run count up to 255, the first and one later than 13 ms begin a run at 1; an accepted one restarts the loss timer
(section 5.1; R74, R75). That a pulse brings the microseconds since the moment at which the loss timer stands, so that a disregarded
one leaves the timer there, and that a withdrawal leaves it at the loss timeout at least, is the model's (log 14). In FADING a
pending qualification is withdrawn; the window's expiry makes the LASTGASP request at the head of the queue, or ends a repeat loss's
FADING, into HELD or into RUN with an evaluation where a qualification is pending (sections 5.4, 5.5; R48, R80, R81, R82). -/
def Obligations.PulsesAndFading : Prop :=
  (∀ (after : Nat) (s : State), s.mainRunning = true →
    (s.mains.accepted = true → s.mains.lossTimer + after < 7000 →
      exec (.zeroCrossPulse after) s =
        .next (serve { s with mains := { s.mains with lossTimer := s.mains.lossTimer + after } }))
    ∧ (s.mains.accepted = false ∨ 13000 < s.mains.lossTimer + after →
      exec (.zeroCrossPulse after) s =
        .next (serve { s with mains := { s.mains with runCount := 1, accepted := true, lossTimer := 0 } }))
    ∧ (s.mains.accepted = true → 7000 ≤ s.mains.lossTimer + after → s.mains.lossTimer + after ≤ 13000 →
      s.mains.runCount < 7 ∨ s.mains.mode = .run →
      exec (.zeroCrossPulse after) s =
        .next (serve { s with
          mains := { s.mains with runCount := min 255 (s.mains.runCount + 1), accepted := true, lossTimer := 0 } })))
  ∧ (∀ s : State, s.mainRunning = true → s.mains.mode = .fading →
    (s.mains.qualPending = true →
      exec .qualificationWithdrawn s = .next { s with
        mains := { s.mains with
          qualPending := false, lossTimer := max s.mains.lossTimer (s.settings.cfg 2 * 1000) } })
    ∧ (s.mains.window.isSome = true → s.mains.lastGasp = .due →
      s.engine.queue.any (Request.isOrigin .lastgasp) = false →
      exec .lastGaspWindowExpiry s = .next (serve { s with
        mains := { s.mains with lastGasp := .requested, window := none }
        engine := { s.engine with queue := .journal .lastgasp s.snapshot :: s.engine.queue } }))
    ∧ (s.mains.window.isSome = true → s.mains.lastGasp = .none → s.mains.qualPending = false →
      exec .lastGaspWindowExpiry s = .next (serve { s with
        mains := { s.mains with mode := .held, lastGasp := .none, window := none } }))
    ∧ (s.mains.window.isSome = true → s.mains.lastGasp = .none → s.mains.qualPending = true →
      ∃ t, exec .lastGaspWindowExpiry s = .next t ∧ t.mains.mode = .run ∧ t.handover.state = .evaluating
        ∧ t.freeze = { s.freeze with loss := false, ret := true } ∧ t.plan = none ∧ t.journal = s.journal
        ∧ t.settings = s.settings))

/-- Mains qualifies at a pulse that brings the run count to 8 or more outside RUN: in WAKING without a chain the mode becomes RUN
and a scan is due; in FADING a due last gasp makes its request and the qualification is held, a requested one holds it; else the
return starts an evaluation: RUN, RETURN for LOSS, the sequencer left as R98 says for each of its states with MAINS_RETURN logged,
EVALUATING with an empty plan, and sensing's catch-up with the references (R71) (sections 4.7, 5.1, 5.6, 6.4, 8.2; R71, R75, R82,
R83, R84, R98, R132). The catch-up deals with the door, then the drum, then the thermistor: the model's choice (log 39); which fault
gives its item, and how often, is read from R71 (log 16); that the reference temperature stays as it was without a valid conversion,
and takes the latest valid one under a fault, is the model's choice (log 43). -/
def Obligations.QualificationReturns : Prop :=
  ∀ (after : Nat) (s : State) (m : Mains), s.mainRunning = true → s.mains.accepted = true →
    7000 ≤ s.mains.lossTimer + after → s.mains.lossTimer + after ≤ 13000 → 7 ≤ s.mains.runCount →
    m = { s.mains with runCount := min 255 (s.mains.runCount + 1), accepted := true, lossTimer := 0 } →
    (s.mains.mode = .waking → s.outage.chainOpen = false →
      exec (.zeroCrossPulse after) s =
        .next (serve { s with mains := { m with mode := .run }, engine := { s.engine with scanDue := true } }))
    ∧ (s.mains.mode = .fading → s.mains.lastGasp = .due → s.engine.queue.any (Request.isOrigin .lastgasp) = false →
      exec (.zeroCrossPulse after) s =
        .next (serve { s with
          mains := { m with lastGasp := .requested, window := none, qualPending := true }
          engine := { s.engine with queue := .journal .lastgasp s.snapshot :: s.engine.queue } }))
    ∧ (s.mains.mode = .fading → s.mains.lastGasp = .requested →
      exec (.zeroCrossPulse after) s = .next (serve { s with mains := { m with qualPending := true } }))
    ∧ ((s.mains.mode = .waking ∧ s.outage.chainOpen = true) ∨ s.mains.mode = .held
        ∨ (s.mains.mode = .fading ∧ s.mains.lastGasp = .none) →
      ∃ w v e d q u t : State, exec (.zeroCrossPulse after) s = .next t ∧ t = serve u
        ∧ w = { s with
          mains := { m with mode := .run, lastGasp := .none, window := none, qualPending := false }
          freeze := { s.freeze with loss := false, ret := true } }
        ∧ sequencerLeft w v ∧ evaluationBegun v e ∧ doorCaughtUp e d ∧ quadCaughtUp d q ∧ tempCaughtUp q u
        ∧ t.mains = { m with mode := .run, lastGasp := .none, window := none, qualPending := false }
        ∧ t.freeze = { s.freeze with loss := false, ret := true } ∧ t.handover.state = .evaluating
        ∧ t.handover.late = false ∧ t.plan = none ∧ t.seq.state ≠ .watch
        ∧ (s.seq.burst = none → s.outage.log.length < 24 →
          ∃ l, t.outage.log = s.outage.log ++ ⟨.mainsReturn, s.outage.summary.duration, none⟩ :: l)
        ∧ t.built = s.built ∧ t.journal = s.journal ∧ t.settings = s.settings ∧ t.panelPort = s.panelPort
        ∧ t.drivePort = s.drivePort ∧ t.flushedCopy = s.flushedCopy)

/-- The loss sequence (sections 5.3, 6.2; R78, R79, R91, R143, R159), in RUN: LOSS joins the freeze set, MAINS_LOSS goes to both
ports, a hand-over gives up and the record becomes unbuilt, a running scheduler idles with its counts kept, the queue is emptied, a
chain is opened with its last gasp due or the open one is lost again without one, its log taking an open burst's DRUM_MOVE and a
MAINS_LOST item, a DORMANT sequencer enters WATCH with the configured base and levels at pace 3, or 1 once the backup is low, the
window runs. A write in progress goes on (R40, R49), a scan ends (R52), and an IDLE engine begins a flush that waited (R39). -/
def Obligations.LossSequence : Prop :=
  ∀ s : State, s.mainRunning = true → s.mains.mode = .run → ∃ t, exec .lossDeclaration s = .next t
    ∧ t.mains.mode = .fading ∧ t.mains.qualPending = false ∧ t.mains.window = some (s.settings.cfg 3)
    ∧ t.freeze = { s.freeze with loss := true } ∧ t.panelAlerts = s.panelAlerts.add .mainsLoss
    ∧ t.driveAlerts = s.driveAlerts.add .mainsLoss ∧ t.handover.state = .closed ∧ t.lpr = s.lpr ∧ t.tallies = s.tallies
    ∧ (s.handover.state = .closed → t.built = s.built) ∧ (s.handover.state ≠ .closed → t.built = false ∧ t.kept = none)
    ∧ t.plan = s.plan ∧ t.engine.queue = [] ∧ t.engine.scanDue = false ∧ t.engine.work ≠ .scanning
    ∧ t.engine = { s.engine with
        queue := [], scanDue := false
        work := if s.engine.work = .idle ∨ s.engine.work = .scanning then
            (if s.seq.flushCopy.isSome = true ∧ s.seq.backupFlush = false then .flush else .idle)
          else s.engine.work }
    ∧ t.sched = (if s.sched.state.timed then { s.sched with state := .idle, remaining := 0 } else s.sched)
    ∧ (s.outage.chainOpen = false →
        t.outage = openedChain .loss s.engine.curSeq s.outage ∧ t.mains.lastGasp = .due)
    ∧ (s.outage.chainOpen = true → t.outage.chainOpen = true ∧ t.outage.openedBy = s.outage.openedBy
        ∧ t.outage.summary.duration = s.outage.summary.duration ∧ t.mains.lastGasp = .none
        ∧ ∃ o, (s.sensing.burst = none → o = s.outage)
          ∧ (∀ n, s.sensing.burst = some n → itemTaken .drumMove (some n) s.outage o) ∧ itemTaken .mainsLost none o t.outage)
    ∧ t.sensing = { s.sensing with burst := none }
    ∧ (s.seq.state = .dormant → ∃ pace, pace = (if t.outage.summary.backupLow then 1 else 3)
        ∧ t.seq = { s.seq with
          state := .watch, base := s.settings.cfg 4, low := s.settings.cfg 5
          floor := if s.settings.cfg 5 ≤ s.settings.cfg 6 then s.settings.cfg 5 - 100 else s.settings.cfg 6
          pace := pace, quiet := 0, sampleFault := false, doorRem := 0, burst := none
          toSample := s.settings.cfg 4 * 1000 / 2 ^ pace })
    ∧ (s.seq.state = .dormant → t.seq.state = .watch) ∧ (s.seq.state ≠ .dormant → t.seq = s.seq)
    ∧ t.journal = s.journal ∧ t.settings = s.settings ∧ t.panelPort = s.panelPort ∧ t.drivePort = s.drivePort
    ∧ t.refs = s.refs ∧ t.flushedCopy = s.flushedCopy

/-- The starts and ends of the two domains. A main-domain start leaves every main-domain state at its start value and opens a COLD
chain where the fresh flag is set and no chain is open; a cold or a backup-only start begins the backup domain from nothing; a loss of
VBK ends it (sections 5.9, 5.10, 6.12; R86, R87, R98, R106). An RSTN assertion opens a RESET chain or marks the open one reset seen, a
VDD collapse makes a DORMANT sequencer with a chain open watch; both cut a journal write, which leaves its slot CORRUPT in step 1 and
OPEN after it, every other slot and the settings as they were, and a flush goes on along the backup path (sections 3.2, 5.8, 5.9; R43,
R51, R85, R86). A collapse while RSTN is held low ends a main domain that holds nothing: no write is cut, the chain stays as it is,
and a DORMANT sequencer with a chain open watches there too. The model's own: what the registers without a reset value hold at a start (log 7), the mark of a chain whose key is to
come (log 31), that an ended domain shows the values of its start (log 22), and that a write cut in step 2 leaves the same free body
for both ends (log 10). -/
def Obligations.DomainsStartAndEnd : Prop :=
  (∀ (mv : Nat) (s : State),
    (s.vdd = true → s.rstn = true → ∃ t, exec (.rstnRelease mv) s = .next t ∧ mainAtStart mv t ∧ t.vdd = true
      ∧ t.rstn = false ∧ t.vbk = s.vbk ∧ t.outage = (if s.outage.fresh = true ∧ s.outage.chainOpen = false then
          openedChain .cold none s.outage else s.outage)
      ∧ t.seq = s.seq ∧ t.refs = s.refs ∧ t.journal = s.journal ∧ t.settings = s.settings ∧ t.flushedCopy = s.flushedCopy)
    ∧ (s.vdd = false → s.vbk = true → s.rstn = false → ∃ t, exec (.warmReturn mv) s = .next t ∧ mainAtStart mv t
      ∧ t.vdd = true ∧ t.rstn = false ∧ t.vbk = true
      ∧ t.outage = (if s.outage.fresh = true ∧ s.outage.chainOpen = false then
          openedChain .cold none s.outage else s.outage)
      ∧ t.seq = s.seq ∧ t.refs = s.refs ∧ t.journal = s.journal ∧ t.settings = s.settings ∧ t.flushedCopy = s.flushedCopy)
    ∧ (s.vdd = false → s.vbk = false → s.rstn = false → ∃ t, exec (.coldStart mv) s = .next t ∧ mainAtStart mv t
      ∧ t.vdd = true ∧ t.vbk = true ∧ t.outage = openedChain .cold none Outage.start ∧ t.seq = Sequencer.start
      ∧ t.refs = ⟨none, none, none⟩ ∧ t.journal = s.journal ∧ t.settings = s.settings ∧ t.flushedCopy = s.flushedCopy)
    ∧ (s.vdd = false → s.vbk = false →
      exec .backupOnlyStart s =
        .next { s with vbk := true, seq := Sequencer.start, refs := ⟨none, none, none⟩, outage := Outage.start })
    ∧ (s.vdd = false → s.vbk = true →
      exec .vbkLoss s =
        .next { s with vbk := false, seq := Sequencer.start, refs := ⟨none, none, none⟩, outage := Outage.start }))
  ∧ (∀ (cut : CutStep) (s : State), s.vdd = true → s.rstn = true →
    ∃ v, exec (.vddCollapse cut) s = .next v ∧ mainEnded v ∧ v.vdd = false ∧ v.rstn = false ∧ v.vbk = s.vbk
      ∧ v.outage = s.outage ∧ v.refs = s.refs ∧ v.journal = s.journal ∧ v.settings = s.settings
      ∧ v.flushedCopy = s.flushedCopy
      ∧ v.seq = (if s.outage.chainOpen = true ∧ s.seq.state = .dormant then watchEntered s s.seq else s.seq))
  ∧ (∀ (cut : CutStep) (s : State), s.mainRunning = true →
    ∃ t v, exec (.rstnAssertion cut) s = .next t ∧ exec (.vddCollapse cut) s = .next v
      ∧ mainEnded t ∧ mainEnded v ∧ t.vbk = s.vbk ∧ v.vbk = s.vbk ∧ v.rstn = false
      ∧ t.rstn = true ∧ t.vdd = true ∧ v.vdd = false ∧ t.mains = Mains.start ∧ v.mains = Mains.start
      ∧ t.engine = Engine.start ∧ v.engine = Engine.start ∧ t.handover = HandOver.start ∧ v.handover = HandOver.start
      ∧ t.built = false ∧ v.built = false ∧ t.sched = Sched.start ∧ v.sched = Sched.start
      ∧ t.panelPort = PortState.start ∧ v.panelPort = PortState.start ∧ t.drivePort = PortState.start
      ∧ v.drivePort = PortState.start ∧ t.panelAlerts = Alerts.start ∧ v.panelAlerts = Alerts.start
      ∧ t.driveAlerts = Alerts.start ∧ v.driveAlerts = Alerts.start
      ∧ t.outage = (if s.outage.chainOpen then { s.outage with resetSeen := true } else openedChain .reset none s.outage)
      ∧ v.outage = s.outage ∧ t.refs = s.refs ∧ v.refs = s.refs
      ∧ t.seq = { s.seq with backupFlush := s.seq.flushCopy.isSome }
      ∧ (s.outage.chainOpen = true → s.seq.state = .dormant → v.seq.state = .watch
          ∧ v.seq = watchEntered s { s.seq with backupFlush := s.seq.flushCopy.isSome })
      ∧ (s.outage.chainOpen = false ∨ s.seq.state ≠ .dormant →
          v.seq = { s.seq with backupFlush := s.seq.flushCopy.isSome })
      ∧ t.settings = s.settings ∧ v.settings = s.settings ∧ t.flushedCopy = s.flushedCopy ∧ v.flushedCopy = s.flushedCopy
      ∧ v.journal = t.journal
      ∧ ((∀ pos n o b, s.engine.work ≠ .entry pos n o b) → t.journal = s.journal)
      ∧ ∀ pos n o b, s.engine.work = .entry pos n o b →
          (∀ i : Fin 16, i ≠ pos → t.journal[i] = s.journal[i])
          ∧ (cut = .header → t.journal[pos].state = .corrupt)
          ∧ (cut ≠ .header → s.journal[pos].commit ≠ some n →
              t.journal[pos].state = .opened ∧ t.journal[pos].seqNo = n)
          ∧ (cut = .commit → t.journal[pos].body = b))

/-! ### Sensing -/

/-- The door (section 4.2; R59, R60, R71, R144, R157). The first adoption is no change; where sensing is the logger it is compared
with the reference, and handed on as a change if it differs. A change is handed on with DOOR_CHANGED: the field takes it, an
opening drops the heat permit, delivers DOOR_OPENINGS and ends a running scheduler with DOOR; the logger takes the finding of an
opening, the reference and the DOOR_OPEN or DOOR_CLOSE item, which goes to the hand-over; without a chain the reference takes it.
That a first adoption outside the logger leaves the references alone is the model's (log 17), and so is that a level already held
changes nothing (log 4). -/
def Obligations.DoorChangesAreHandedOn : Prop :=
  ∀ (isOpen : Bool) (d : Door) (s : State), s.mainRunning = true → d = (if isOpen then .opened else .closed) →
    (s.sensing.door = none → s.logger = false →
      exec (.doorFirstAdoption isOpen) s = .next (serve { s with sensing := { s.sensing with door := some d } }))
    ∧ (s.sensing.door = none → s.logger = true → s.refs.door = none ∨ s.refs.door = some d →
      exec (.doorFirstAdoption isOpen) s = .next (serve { s with
        sensing := { s.sensing with door := some d }, refs := { s.refs with door := some d } }))
    ∧ (s.sensing.door = none → s.logger = true → s.refs.door ≠ none → s.refs.door ≠ some d →
      ∃ u, doorHandedOn d s u ∧ exec (.doorFirstAdoption isOpen) s = .next (serve u))
    ∧ (s.sensing.door = some d → exec (.doorChange isOpen) s = .next (serve s))
    ∧ (s.sensing.door ≠ none → s.sensing.door ≠ some d →
      ∃ u, doorHandedOn d s u ∧ exec (.doorChange isOpen) s = .next (serve u))
    ∧ (s.sensing.door = some .opened → isOpen = false → s.outage.chainOpen = false →
      exec (.doorChange isOpen) s = .next (serve { s with
        sensing := { s.sensing with door := some .closed }, refs := { s.refs with door := some .closed }
        panelAlerts := s.panelAlerts.add .doorChanged, driveAlerts := s.driveAlerts.add .doorChanged }))
    ∧ (s.sensing.door = some .closed → isOpen = true →
      ∃ t, exec (.doorChange isOpen) s = .next t ∧ t.sensing.door = some .opened ∧ t.hpm = false
        ∧ t.panelAlerts.has Alert.doorChanged.num = true ∧ t.driveAlerts.has Alert.doorChanged.num = true
        ∧ (s.sched.state.timed = true →
            t.sched.state = .ended ∧ t.sched.endReason = .door ∧ t.lpr.phase = .done)
        ∧ (s.sched.state.timed = false → s.logger = false → t.tallies = (deliver .doorOpenings 1 s).tallies ∧ t.lpr = s.lpr)
        ∧ (s.logger = true → t.refs.door = some .opened ∧ t.outage.summary.doorOpened = true)
        ∧ (s.logger = true → s.outage.log.length < 24 →
            t.outage.log = s.outage.log ++ [⟨.doorOpen, s.outage.summary.duration, none⟩])
        ∧ (s.outage.chainOpen = false → t.refs.door = some .opened ∧ t.outage.chainOpen = false
            ∧ t.outage.log = s.outage.log ∧ t.outage.summary.doorOpened = s.outage.summary.doorOpened)
        ∧ t.journal = s.journal ∧ t.settings = s.settings ∧ t.mains = s.mains ∧ t.panelPort = s.panelPort
        ∧ t.drivePort = s.drivePort ∧ t.flushedCopy = s.flushedCopy)

/-- The drum (section 4.3; R61 to R64, R71): the first accepted combination is tracked without a step; a step moves the
accumulator, which a full turn returns to 0 with a DRUM_TURNS occurrence, a step against the last one is a REVERSALS occurrence;
an opposite combination counts a fault and is tracked, and the logger closes its burst and logs MOTION_UNCERTAIN with two
quarter-turns; the logger's first adoption is compared with the reference: a step opens a burst, an opposite one is a jump; the
logger's burst closes with its DRUM_MOVE item. That a first adoption outside the logger leaves the reference alone is the model's
(DEDUCED, log 17). -/
def Obligations.DrumMovesAreTracked : Prop :=
  ∀ (q : Quad) (s : State), s.mainRunning = true →
    (s.sensing.quad = none → s.logger = false →
      exec (.quadFirstAdoption q) s = .next (serve { s with sensing := { s.sensing with quad := some q } }))
    ∧ (s.sensing.quad = none → s.logger = true → ∀ v : State,
      v = { s with sensing := { s.sensing with quad := some q }, refs := { s.refs with quad := some q } } →
      (s.refs.quad = none ∨ s.refs.quad = some q → exec (.quadFirstAdoption q) s = .next (serve v))
      ∧ (∀ (a : Quad) (d : Dir), s.refs.quad = some a → quadMove a q = .step d →
        exec (.quadFirstAdoption q) s = .next (serve { v with
          sensing := { v.sensing with burst := some (min 65535 (s.sensing.burst.getD 0 + 1)) }
          outage := { s.outage with
            summary := { s.outage.summary with
              quarters := min 65535 (s.outage.summary.quarters + 1)
              net := max (-32768) (min 32767 (s.outage.summary.net + (if d = .cw then 1 else -1))) } } }))
      ∧ (∀ a : Quad, s.refs.quad = some a → quadMove a q = .opposite →
        ∃ u, jumpRecorded v u ∧ exec (.quadFirstAdoption q) s = .next (serve u)))
    ∧ (∀ (a : Quad) (d : Dir) (acc : Int) (v : State), s.sensing.quad = some a → quadMove a q = .step d →
      acc = s.sensing.acc + (if d = .cw then 1 else -1) →
      v = (if s.sensing.prevDir = some d.opposite then deliver .reversals 1 s else s) →
      ∃ t, exec (.quadStep q) s = .next t
        ∧ t.sensing = { s.sensing with
            quad := some q, prevDir := some d, acc := if acc = 4 ∨ acc = -4 then 0 else acc
            burst := if s.logger then some (min 65535 (s.sensing.burst.getD 0 + 1)) else s.sensing.burst }
        ∧ t.tallies = (if acc = 4 ∨ acc = -4 then deliver .drumTurns 1 v else v).tallies
        ∧ (s.logger = true → t.outage.summary.quarters = min 65535 (s.outage.summary.quarters + 1)
            ∧ t.outage.summary.net = max (-32768) (min 32767 (s.outage.summary.net + (if d = .cw then 1 else -1))))
        ∧ t.refs.quad = (if s.logger = true ∨ s.outage.chainOpen = false then some q else s.refs.quad)
        ∧ t.lpr = s.lpr ∧ t.sched = s.sched ∧ t.mains = s.mains ∧ t.journal = s.journal ∧ t.settings = s.settings
        ∧ t.panelPort = s.panelPort ∧ t.drivePort = s.drivePort ∧ t.outage.log = s.outage.log)
    ∧ (∀ a : Quad, s.sensing.quad = some a → quadMove a q = .opposite → s.logger = false →
      ∃ r, r = (if s.outage.chainOpen = false then { s.refs with quad := some q } else s.refs)
        ∧ exec (.quadIllegalJump q) s = .next (serve { s with
          sensing := { s.sensing with quad := some q, quadFaults := min 255 (s.sensing.quadFaults + 1) }, refs := r }))
    ∧ (∀ a : Quad, s.sensing.quad = some a → quadMove a q = .opposite → s.logger = true →
      ∃ u, jumpRecorded { s with
            sensing := { s.sensing with quad := some q, quadFaults := min 255 (s.sensing.quadFaults + 1) }
            refs := { s.refs with quad := some q } } u
        ∧ exec (.quadIllegalJump q) s = .next (serve u))
    ∧ ([Quad.q0, .q1, .q2, .q3].map fun a => [Quad.q0, .q1, .q2, .q3].map fun b => quadMove a b) =
        [[.same, .step .cw, .opposite, .step .ccw], [.step .ccw, .same, .step .cw, .opposite],
          [.opposite, .step .ccw, .same, .step .cw], [.step .cw, .opposite, .step .ccw, .same]]
    ∧ (∀ n, s.sensing.burst = some n → s.outage.log.length < 24 →
      ∃ t, exec .drumBurstClose s = .next t ∧ t.sensing.burst = none
        ∧ t.outage.log = s.outage.log ++ [⟨.drumMove, s.outage.summary.duration, some n⟩] ∧ t.journal = s.journal
        ∧ t.settings = s.settings ∧ t.mains = s.mains ∧ t.panelPort = s.panelPort ∧ t.drivePort = s.drivePort)

/-- The heater sense and the second (sections 4.4 to 4.6; R60, R65, R66, R69, R70): a sample begins or ends a mismatch episode, a
running one passes 2 s into RAISED with HEATER_MISMATCH on both ports; a second's end measures VBK, restarts the count of high
samples, counts a door-open second for the logger and delivers HEATER_SECONDS from 50 high samples on, and TEMP_SECONDS. Three
things are the model's: the door and the logger are judged at the second's end (log 35), the command's operand says which of the two
occurrences is delivered first (log 15), and a heater second counts whatever the thermistor fault (log 40). -/
def Obligations.HeaterSamplesAndSeconds : Prop :=
  ∀ (high tempFirst : Bool) (mv : Nat) (s : State), s.mainRunning = true →
    (∀ ep : Episode, ep = (if high = true ∧ s.hpm = false then
          (if s.sensing.episode = .none then .running else s.sensing.episode) else .none) →
      exec (.htsSample high) s = .next { s with
        sensing := { s.sensing with
          htsLatest := high, htsHighs := s.sensing.htsHighs + (if high then 1 else 0), episode := ep
          mismatchMs := if high = true ∧ s.hpm = false ∧ s.sensing.episode = .none then 0 else s.sensing.mismatchMs } })
    ∧ (s.sensing.episode = .running →
      exec .mismatchTimerExpiry s = .next { s with
        sensing := { s.sensing with episode := .raised }
        panelAlerts := s.panelAlerts.add .heaterMismatch, driveAlerts := s.driveAlerts.add .heaterMismatch })
    ∧ ∃ (t : State) (x y : State → State) (temp : Nat),
        exec (.mainSecond mv tempFirst) s = .next t
        ∧ temp = (if s.built then s.lpr.temp.toNat else (s.sensing.lastTemp.getD 0).toNat)
        ∧ (∀ z, x z = if 50 ≤ s.sensing.htsHighs then deliver .heaterSeconds 1 z else z)
        ∧ (∀ z, y z = deliver .tempSeconds temp z)
        ∧ t.tallies = (if tempFirst then x (y s) else y (x s)).tallies
        ∧ t.freeze = (if tempFirst then x (y s) else y (x s)).freeze
        ∧ t.sensing = { s.sensing with
            htsHighs := 0, secondMs := 0, backupMv := some (min 6000 (mv / 10 * 10)) }
        ∧ t.outage.summary.doorOpenSec =
            (if s.logger = true ∧ s.sensing.door = some .opened then min 65535 (s.outage.summary.doorOpenSec + 1)
              else s.outage.summary.doorOpenSec)
        ∧ t.lpr = s.lpr ∧ t.sched = s.sched ∧ t.mains = s.mains ∧ t.refs = s.refs ∧ t.journal = s.journal
        ∧ t.settings = s.settings ∧ t.panelPort = s.panelPort ∧ t.drivePort = s.drivePort ∧ t.plan = s.plan
        ∧ t.handover = s.handover ∧ t.outage.log = s.outage.log

/-- A thermistor conversion (sections 4.5, 8.9, 10.4; R15, R67, R69, R145, R166, R186): a valid code gives the temperature of the
table, ends the fault condition, moves the over-limit mark with its 5 °C of hysteresis and, without a chain, the reference; a
faulted code keeps the last temperature, sets the stale mark and enters the fault condition with SENSOR_FAULT on both ports, and
with a SENSOR_FAULT item, handed to the hand-over, where sensing is the logger. Where the condition ceases, a port that had taken
SENSOR_FAULT loses it together with its taken mark. The temperature of a code (R68, R186): a point's at
the point, the end's beyond the ends, between two points the interpolated one, rounded to the nearest degree with halves up, held to
−20 … 150 °C; through the factory table where the codes do not rise. That the store fault is set by a valid code alone, and that the
table is tested with its words as used, are read from R186 (logs 24 and 25); the mark of where a fault entered is the model's (log
16). -/
def Obligations.ThermistorConversions : Prop :=
  (∀ (tb : Vector Word 18) (code : BitVec 10),
    (¬codesRise tb → temperatureOf tb code = temperatureOf factoryTemp code)
    ∧ (codesRise tb →
      (code.toNat ≤ codeAt tb 0 → temperatureOf tb code = degreesAt tb 0)
      ∧ (codeAt tb 8 ≤ code.toNat → temperatureOf tb code = degreesAt tb 8)
      ∧ (∀ k : Fin 9, code.toNat = codeAt tb k → temperatureOf tb code = degreesAt tb k)
      ∧ ∀ (k : Fin 8) (den num : Int), den = codeAt tb k.succ - codeAt tb k.castSucc →
          num = (code.toNat - codeAt tb k.castSucc) * (degreesAt tb k.succ - degreesAt tb k.castSucc) →
          codeAt tb k.castSucc < code.toNat → code.toNat < codeAt tb k.succ →
          ∃ r : Int, 2 * den * r ≤ 2 * (degreesAt tb k.castSucc * den + num) + den
            ∧ 2 * (degreesAt tb k.castSucc * den + num) + den < 2 * den * (r + 1)
            ∧ temperatureOf tb code = max (-20) (min 150 r)))
  ∧ (∀ k : Fin 9, codeAt factoryTemp k = [16, 140, 260, 380, 500, 620, 740, 870, 1007].getD k.val 0
    ∧ degreesAt factoryTemp k = [150, 110, 85, 65, 50, 38, 27, 14, -20].getD k.val 0)
  ∧ ∀ (code : BitVec 10) (temp : Int) (s : State), s.mainRunning = true → temp = temperatureOf s.settings.temp code →
    (16 ≤ code.toNat → code.toNat ≤ 1007 → s.sensing.fault = false →
      exec (.thermistorConversion code) s = .next (serve { s with
        storeFault := s.storeFault || !tableUsable s.settings.temp
        sensing := { s.sensing with convCode := some code, faultAsLogger := false, lastTemp := some temp }
        lpr := { s.lpr with temp := if s.built then temp else s.lpr.temp, stale := false }
        handover := { s.handover with
          overLimit := if s.handover.overLimit then decide ((s.settings.cfg 7 : Int) - 5 ≤ temp)
            else decide ((s.settings.cfg 7 : Int) ≤ temp) }
        refs := if s.logger = true ∨ s.outage.chainOpen = false then { s.refs with temp := some temp } else s.refs }))
    ∧ (16 ≤ code.toNat → code.toNat ≤ 1007 → s.sensing.fault = true →
      ∃ (t : State) (pa da : Alerts), exec (.thermistorConversion code) s = .next t ∧ t = serve { s with
          storeFault := s.storeFault || !tableUsable s.settings.temp
          sensing := { s.sensing with convCode := some code, fault := false, faultAsLogger := false, lastTemp := some temp }
          lpr := { s.lpr with temp := if s.built then temp else s.lpr.temp, stale := false }
          handover := { s.handover with
            overLimit := if s.handover.overLimit then decide ((s.settings.cfg 7 : Int) - 5 ≤ temp)
              else decide ((s.settings.cfg 7 : Int) ≤ temp) }
          refs := if s.logger = true ∨ s.outage.chainOpen = false then { s.refs with temp := some temp } else s.refs
          panelAlerts := pa, driveAlerts := da }
        ∧ (∀ p : Port, (t.alerts p).mask = (s.alerts p).mask ∧ (t.alerts p).levels = (s.alerts p).levels
            ∧ (t.alerts p).has Alert.sensorFault.num =
              ((s.alerts p).has Alert.sensorFault.num && !(s.alerts p).taken)
            ∧ (t.alerts p).taken = ((s.alerts p).taken && !(s.alerts p).has Alert.sensorFault.num)
            ∧ ∀ k : Fin 13, k ≠ Alert.sensorFault.num → (t.alerts p).has k = (s.alerts p).has k))
    ∧ (code.toNat < 16 ∨ 1007 < code.toNat → s.sensing.fault = true →
      exec (.thermistorConversion code) s = .next (serve { s with
        sensing := { s.sensing with convCode := some code }, lpr := { s.lpr with stale := true } }))
    ∧ (code.toNat < 16 ∨ 1007 < code.toNat → s.sensing.fault = false → s.logger = true →
      ∃ o, itemTaken .sensorFault none s.outage o
        ∧ exec (.thermistorConversion code) s = .next (serve (newLogItem .sensorFault { s with
          sensing := { s.sensing with convCode := some code, fault := true, faultAsLogger := true }
          lpr := { s.lpr with stale := true }, outage := o
          panelAlerts := { s.panelAlerts.add .sensorFault with taken := false }
          driveAlerts := { s.driveAlerts.add .sensorFault with taken := false } })))
    ∧ (code.toNat < 16 ∨ 1007 < code.toNat → s.sensing.fault = false → s.logger = false →
      exec (.thermistorConversion code) s = .next (serve { s with
        sensing := { s.sensing with convCode := some code, fault := true, faultAsLogger := false }
        lpr := { s.lpr with stale := true }
        panelAlerts := { s.panelAlerts.add .sensorFault with taken := false }
        driveAlerts := { s.driveAlerts.add .sensorFault with taken := false } }))

/-! ### The outage watch -/

/-- A sample in WATCH (section 6.3; R92 to R97, R99): the references follow the door, the drum and a valid temperature; door opened,
door-open seconds, quarter-turns, motion uncertain and backup low seen follow what it finds; a move brings the pace to 3, or to 1
once the backup is low; failing that a change of 3 °C raises it by 1, and the fourth quiet sample lowers it by 1; the items of what
it finds join the log in the order of R101 (log 26); below the floor FLUSHING is entered, a KNOWN quality becomes LOWER_BOUND, and
the summary as it then stands, flushed written as yes, is what is flushed. The rest of the watch, and all outside it, stays; an IDLE
engine then takes its next work (section 3.2; R39). -/
def Obligations.SamplesWatchTheOutage : Prop :=
  ∀ (isOpen : Bool) (q : Quad) (code : BitVec 10) (mv : Nat) (s : State), s.vbk = true → s.seq.state = .watch →
    ∃ (t : State) (d : Door) (m : Nat) (moved : Bool), exec (.sample isOpen q code mv) s = .next (serve t)
      ∧ d = (if isOpen then .opened else .closed) ∧ m = min 6000 (mv / 10 * 10)
      ∧ moved = ((s.refs.door.isSome && s.refs.door != some d)
          || (match s.refs.quad with | some a => decide (quadMove a q ≠ .same) | none => false))
      ∧ t.refs.door = some d ∧ t.refs.quad = some q
      ∧ t.refs.temp = (if 16 ≤ code.toNat ∧ code.toNat ≤ 1007 then some (temperatureOf s.settings.temp code) else s.refs.temp)
      ∧ t.outage.summary.doorOpened =
          (s.outage.summary.doorOpened || (s.refs.door == some .closed && isOpen))
      ∧ t.outage.summary.doorOpenSec = (if isOpen then
          min 65535 (s.outage.summary.doorOpenSec + (s.seq.doorRem + s.seq.base * 1000 / 2 ^ s.seq.pace) / 1000)
          else s.outage.summary.doorOpenSec)
      ∧ t.seq.doorRem = (if isOpen then (s.seq.doorRem + s.seq.base * 1000 / 2 ^ s.seq.pace) % 1000 else s.seq.doorRem)
      ∧ t.outage.summary.quarters = (match s.refs.quad with
          | some a => (match quadMove a q with
            | .same => s.outage.summary.quarters
            | .step _ => min 65535 (s.outage.summary.quarters + 1)
            | .opposite => min 65535 (s.outage.summary.quarters + 2))
          | none => s.outage.summary.quarters)
      ∧ (t.outage.summary.uncertain = true ↔ s.outage.summary.uncertain = true
          ∨ ∃ a, s.refs.quad = some a ∧ quadMove a q = .opposite)
      ∧ t.outage.summary.backupLow = (s.outage.summary.backupLow || decide (m < s.seq.low)) ∧ t.seq.lastVbk = some m
      ∧ t.outage.summary.net = (match s.refs.quad with
          | some a => (match quadMove a q with
            | .step .cw => max (-32768) (min 32767 (s.outage.summary.net + 1))
            | .step .ccw => max (-32768) (min 32767 (s.outage.summary.net - 1))
            | _ => s.outage.summary.net)
          | none => s.outage.summary.net)
      ∧ t.outage.summary.lastTemp = (if 16 ≤ code.toNat ∧ code.toNat ≤ 1007 then some (temperatureOf s.settings.temp code)
          else s.outage.summary.lastTemp)
      ∧ t.seq.sampleFault = !(decide (16 ≤ code.toNat) && decide (code.toNat ≤ 1007))
      ∧ (∀ warmed : Bool, warmed = (decide (16 ≤ code.toNat ∧ code.toNat ≤ 1007) && (match s.refs.temp with
            | some r => decide (3 ≤ (temperatureOf s.settings.temp code - r).natAbs)
            | none => false)) →
          t.seq.quiet = (if moved = true ∨ warmed = true ∨ s.seq.quiet = 3 then 0 else s.seq.quiet + 1)
          ∧ ∀ pace, pace = (if moved then 3 else if warmed then min 3 (s.seq.pace + 1)
              else if s.seq.quiet = 3 then s.seq.pace - 1 else s.seq.pace) →
            t.seq.pace = (if t.outage.summary.backupLow then min 1 pace else pace)
            ∧ t.seq.toSample = s.seq.base * 1000 / 2 ^ t.seq.pace)
      ∧ (∀ step still : Bool,
          step = (match s.refs.quad with
            | some a => decide (quadMove a q = .step .cw ∨ quadMove a q = .step .ccw)
            | none => false) →
          still = (match s.refs.quad with
            | some a => !decide (quadMove a q = .step .cw ∨ quadMove a q = .step .ccw)
            | none => false) →
          t.seq.burst = (if m < s.seq.floor ∨ still = true then none
            else if step then some (min 65535 (s.seq.burst.getD 0 + 1)) else s.seq.burst)
          ∧ (s.outage.log.length ≤ 18 → ∀ item : ItemKind → Option Nat → LogItem,
            (∀ k a, item k a = ⟨k, s.outage.summary.duration, a⟩) →
            t.outage.log = s.outage.log
              ++ (if still then (s.seq.burst.map fun n => item .drumMove (some n)).toList else [])
              ++ (if s.refs.door.isSome ∧ s.refs.door ≠ some d then [item (if isOpen then .doorOpen else .doorClose) none] else [])
              ++ (if still = true ∧ s.refs.quad ≠ some q then [item .motionUncertain none] else [])
              ++ (if (code.toNat < 16 ∨ 1007 < code.toNat) ∧ s.seq.sampleFault = false then [item .sensorFault none] else [])
              ++ (if m < s.seq.low ∧ s.outage.summary.backupLow = false then [item .backupLow none] else [])
              ++ (if m < s.seq.floor ∧ still = false then
                  ((if step then some (min 65535 (s.seq.burst.getD 0 + 1)) else s.seq.burst).map
                    fun n => item .drumMove (some n)).toList else [])))
      ∧ (moved = true → t.seq.pace = (if t.outage.summary.backupLow then 1 else 3) ∧ t.seq.quiet = 0)
      ∧ (m < s.seq.floor → t.seq.state = .flushing ∧ t.seq.flushCopy = some { t.outage.summary with flushed := true }
          ∧ t.outage.summary.quality = (if s.outage.summary.quality = .known then .lowerBound else s.outage.summary.quality)
          ∧ t.seq.backupFlush = !s.mainRunning)
      ∧ (s.seq.floor ≤ m → t.seq.state = .watch ∧ t.outage.summary.quality = s.outage.summary.quality
          ∧ t.seq.flushCopy = s.seq.flushCopy ∧ t.seq.backupFlush = s.seq.backupFlush)
      ∧ t.outage.summary.duration = s.outage.summary.duration ∧ t.outage.summary.matchKey = s.outage.summary.matchKey
      ∧ t.outage.summary.flushed = s.outage.summary.flushed
      ∧ (s.outage.log.length ≤ 18 → t.outage.summary.itemsLost = s.outage.summary.itemsLost)
      ∧ (∃ l sm, t.outage = { s.outage with log := l, summary := sm })
      ∧ t.seq.base = s.seq.base ∧ t.seq.low = s.seq.low ∧ t.seq.floor = s.seq.floor ∧ t.seq.returnSeen = s.seq.returnSeen
      ∧ t.engine = s.engine ∧ t.built = s.built ∧ t.kept = s.kept ∧ t.preloaded = s.preloaded ∧ t.storeFault = s.storeFault
      ∧ t.lpr = s.lpr ∧ t.tallies = s.tallies ∧ t.freeze = s.freeze ∧ t.mains = s.mains ∧ t.handover = s.handover
      ∧ t.plan = s.plan ∧ t.sensing = s.sensing ∧ t.sched = s.sched ∧ t.journal = s.journal ∧ t.settings = s.settings
      ∧ t.flushedCopy = s.flushedCopy ∧ t.panelAlerts = s.panelAlerts ∧ t.driveAlerts = s.driveAlerts
      ∧ t.panelPort = s.panelPort ∧ t.drivePort = s.drivePort

/-- The end of a flush and the outage timer's second (sections 6.1, 6.5; R51, R90, R99): the array holds the copy, flushed becomes
yes, the sequencer becomes SPENT, or DORMANT after a return; a counted second adds one up to 65535, where a KNOWN quality turns
LOWER_BOUND. -/
def Obligations.FlushesAndTheOutageTimer : Prop :=
  ∀ s : State, s.vbk = true →
    (∀ c, s.seq.flushCopy = some c → s.flushRuns = true →
      exec .flushComplete s = .next (serve { s with
        flushedCopy := c
        outage := { s.outage with summary := { s.outage.summary with flushed := true } }
        engine := { s.engine with work := if s.engine.work = .flush then .idle else s.engine.work }
        seq := { s.seq with
          state := if s.seq.returnSeen then .dormant else .spent, returnSeen := false, flushCopy := none
          backupFlush := false } }))
    ∧ (s.outage.chainOpen = true → s.seq.state = .dormant ∨ s.seq.state = .watch →
      exec .outageTimerSecond s = .next { s with
        outage := { s.outage with
          partMs := 0
          summary := { s.outage.summary with
            duration := min 65535 (s.outage.summary.duration + 1)
            quality := if 65534 ≤ s.outage.summary.duration ∧ s.outage.summary.quality = .known then .lowerBound
              else s.outage.summary.quality } } })
    ∧ (s.outage.chainOpen = false ∨ s.seq.state = .flushing ∨ s.seq.state = .spent → exec .outageTimerSecond s = .next s)
end

