-- ==== Sys2Proof/Laws/Frames.lean ====
section
/-! SUPPORT. The fields of a frame are what it was put together from (R177). -/

namespace Sys2Proof.Machine

variable (cmd cls : Code) (idx : Index) (data : Word)

@[simp] theorem frameCmd_frameOf : frameCmd (frameOf cmd cls idx data) = cmd := by
  ext i h; simp [frameCmd, frameOf]; grind

@[simp] theorem frameClass_frameOf : frameClass (frameOf cmd cls idx data) = cls := by
  ext i h; simp [frameClass, frameOf]; grind

@[simp] theorem frameIndex_frameOf : frameIndex (frameOf cmd cls idx data) = idx := by
  ext i h; simp [frameIndex, frameOf]; grind

@[simp] theorem frameData_frameOf : frameData (frameOf cmd cls idx data) = data := by
  ext i h; simp [frameData, frameOf]; grind

/-- A frame is put together from its own fields (R177). -/
theorem frameOf_fields (w : Frame) : frameOf (frameCmd w) (frameClass w) (frameIndex w) (frameData w) = w := by
  ext i h; simp [frameOf, frameCmd, frameClass, frameIndex, frameData]; grind

/-- Only a frame with command 15 and every other field full is all ones (R174). -/
theorem frameOf_eq_allOnes (h : frameOf cmd cls idx data = allOnesFrame) :
    cmd = 15 ∧ cls = 15 ∧ idx = 255 ∧ data = 65535 := by
  have h1 := congrArg frameCmd h
  have h2 := congrArg frameClass h
  have h3 := congrArg frameIndex h
  have h4 := congrArg frameData h
  simp only [frameCmd_frameOf, frameClass_frameOf, frameIndex_frameOf, frameData_frameOf] at h1 h2 h3 h4
  exact ⟨h1.trans (by decide), h2.trans (by decide), h3.trans (by decide), h4.trans (by decide)⟩

/-- A frame with a command other than 15 is not all ones (R174). -/
theorem frameOf_ne_allOnes (h : cmd ≠ 15) : frameOf cmd cls idx data ≠ allOnesFrame :=
  fun e => h (frameOf_eq_allOnes cmd cls idx data e).1

end Sys2Proof.Machine
end

