-- ==== Sys2Proof/Laws/State.lean ====
section
/-! SUPPORT. One lemma per field of the state for each named update of ports and alerts. -/

set_option Elab.async false

namespace Sys2Proof.Machine

variable (s : State) (p : Port)

/-! ### A port's state replaced -/

@[simp] theorem State.setPort_pending (q : PortState) : (s.setPort p q).pending = s.pending := by cases p <;> rfl

@[simp] theorem State.setPort_freeCount (q : PortState) : (s.setPort p q).freeCount = s.freeCount := by cases p <;> rfl

@[simp] theorem State.setPort_vdd (q : PortState) : (s.setPort p q).vdd = s.vdd := by cases p <;> rfl

@[simp] theorem State.setPort_vbk (q : PortState) : (s.setPort p q).vbk = s.vbk := by cases p <;> rfl

@[simp] theorem State.setPort_rstn (q : PortState) : (s.setPort p q).rstn = s.rstn := by cases p <;> rfl

@[simp] theorem State.setPort_panelAlerts (q : PortState) : (s.setPort p q).panelAlerts = s.panelAlerts := by cases p <;> rfl

@[simp] theorem State.setPort_driveAlerts (q : PortState) : (s.setPort p q).driveAlerts = s.driveAlerts := by cases p <;> rfl

@[simp] theorem State.setPort_lpr (q : PortState) : (s.setPort p q).lpr = s.lpr := by cases p <;> rfl

@[simp] theorem State.setPort_built (q : PortState) : (s.setPort p q).built = s.built := by cases p <;> rfl

@[simp] theorem State.setPort_freeze (q : PortState) : (s.setPort p q).freeze = s.freeze := by cases p <;> rfl

@[simp] theorem State.setPort_tallies (q : PortState) : (s.setPort p q).tallies = s.tallies := by cases p <;> rfl

@[simp] theorem State.setPort_preloaded (q : PortState) : (s.setPort p q).preloaded = s.preloaded := by cases p <;> rfl

@[simp] theorem State.setPort_engine (q : PortState) : (s.setPort p q).engine = s.engine := by cases p <;> rfl

@[simp] theorem State.setPort_storeFault (q : PortState) : (s.setPort p q).storeFault = s.storeFault := by cases p <;> rfl

@[simp] theorem State.setPort_sensing (q : PortState) : (s.setPort p q).sensing = s.sensing := by cases p <;> rfl

@[simp] theorem State.setPort_mains (q : PortState) : (s.setPort p q).mains = s.mains := by cases p <;> rfl

@[simp] theorem State.setPort_plan (q : PortState) : (s.setPort p q).plan = s.plan := by cases p <;> rfl

@[simp] theorem State.setPort_kept (q : PortState) : (s.setPort p q).kept = s.kept := by cases p <;> rfl

@[simp] theorem State.setPort_handover (q : PortState) : (s.setPort p q).handover = s.handover := by cases p <;> rfl

@[simp] theorem State.setPort_sched (q : PortState) : (s.setPort p q).sched = s.sched := by cases p <;> rfl

@[simp] theorem State.setPort_seq (q : PortState) : (s.setPort p q).seq = s.seq := by cases p <;> rfl

@[simp] theorem State.setPort_refs (q : PortState) : (s.setPort p q).refs = s.refs := by cases p <;> rfl

@[simp] theorem State.setPort_outage (q : PortState) : (s.setPort p q).outage = s.outage := by cases p <;> rfl

@[simp] theorem State.setPort_journal (q : PortState) : (s.setPort p q).journal = s.journal := by cases p <;> rfl

@[simp] theorem State.setPort_settings (q : PortState) : (s.setPort p q).settings = s.settings := by cases p <;> rfl

@[simp] theorem State.setPort_flushedCopy (q : PortState) : (s.setPort p q).flushedCopy = s.flushedCopy := by cases p <;> rfl

@[simp] theorem State.port_setPort (q : PortState) : (s.setPort p q).port p = q := by cases p <;> rfl

@[simp] theorem State.alerts_setPort (q : PortState) (r : Port) : (s.setPort p q).alerts r = s.alerts r := by
  cases p <;> cases r <;> rfl

@[simp] theorem State.setPort_setPort (q r : PortState) : (s.setPort p q).setPort p r = s.setPort p r := by cases p <;> rfl

@[simp] theorem State.setPort_port : s.setPort p (s.port p) = s := by cases p <;> rfl

theorem State.port_setPort_ne {r : Port} (h : r ≠ p) (q : PortState) : (s.setPort p q).port r = s.port r := by
  cases p <;> cases r <;> simp_all [State.setPort, State.port]

@[simp] theorem State.setPort_panel (q : PortState) : s.setPort .panel q = { s with panelPort := q } := rfl

@[simp] theorem State.setPort_drive (q : PortState) : s.setPort .drive q = { s with drivePort := q } := rfl

@[simp] theorem State.port_panel : s.port .panel = s.panelPort := rfl

@[simp] theorem State.port_drive : s.port .drive = s.drivePort := rfl

@[simp] theorem State.setPort_mainRunning (q : PortState) : (s.setPort p q).mainRunning = s.mainRunning := by
  cases p <;> rfl

/-! ### A port's alerts replaced -/

@[simp] theorem State.setAlerts_pending (a : Alerts) : (s.setAlerts p a).pending = s.pending := by cases p <;> rfl

@[simp] theorem State.setAlerts_freeCount (a : Alerts) : (s.setAlerts p a).freeCount = s.freeCount := by cases p <;> rfl

@[simp] theorem State.setAlerts_vdd (a : Alerts) : (s.setAlerts p a).vdd = s.vdd := by cases p <;> rfl

@[simp] theorem State.setAlerts_vbk (a : Alerts) : (s.setAlerts p a).vbk = s.vbk := by cases p <;> rfl

@[simp] theorem State.setAlerts_rstn (a : Alerts) : (s.setAlerts p a).rstn = s.rstn := by cases p <;> rfl

@[simp] theorem State.setAlerts_panelPort (a : Alerts) : (s.setAlerts p a).panelPort = s.panelPort := by cases p <;> rfl

@[simp] theorem State.setAlerts_drivePort (a : Alerts) : (s.setAlerts p a).drivePort = s.drivePort := by cases p <;> rfl

@[simp] theorem State.setAlerts_lpr (a : Alerts) : (s.setAlerts p a).lpr = s.lpr := by cases p <;> rfl

@[simp] theorem State.setAlerts_built (a : Alerts) : (s.setAlerts p a).built = s.built := by cases p <;> rfl

@[simp] theorem State.setAlerts_freeze (a : Alerts) : (s.setAlerts p a).freeze = s.freeze := by cases p <;> rfl

@[simp] theorem State.setAlerts_tallies (a : Alerts) : (s.setAlerts p a).tallies = s.tallies := by cases p <;> rfl

@[simp] theorem State.setAlerts_preloaded (a : Alerts) : (s.setAlerts p a).preloaded = s.preloaded := by cases p <;> rfl

@[simp] theorem State.setAlerts_engine (a : Alerts) : (s.setAlerts p a).engine = s.engine := by cases p <;> rfl

@[simp] theorem State.setAlerts_storeFault (a : Alerts) : (s.setAlerts p a).storeFault = s.storeFault := by cases p <;> rfl

@[simp] theorem State.setAlerts_sensing (a : Alerts) : (s.setAlerts p a).sensing = s.sensing := by cases p <;> rfl

@[simp] theorem State.setAlerts_mains (a : Alerts) : (s.setAlerts p a).mains = s.mains := by cases p <;> rfl

@[simp] theorem State.setAlerts_plan (a : Alerts) : (s.setAlerts p a).plan = s.plan := by cases p <;> rfl

@[simp] theorem State.setAlerts_kept (a : Alerts) : (s.setAlerts p a).kept = s.kept := by cases p <;> rfl

@[simp] theorem State.setAlerts_handover (a : Alerts) : (s.setAlerts p a).handover = s.handover := by cases p <;> rfl

@[simp] theorem State.setAlerts_sched (a : Alerts) : (s.setAlerts p a).sched = s.sched := by cases p <;> rfl

@[simp] theorem State.setAlerts_seq (a : Alerts) : (s.setAlerts p a).seq = s.seq := by cases p <;> rfl

@[simp] theorem State.setAlerts_refs (a : Alerts) : (s.setAlerts p a).refs = s.refs := by cases p <;> rfl

@[simp] theorem State.setAlerts_outage (a : Alerts) : (s.setAlerts p a).outage = s.outage := by cases p <;> rfl

@[simp] theorem State.setAlerts_journal (a : Alerts) : (s.setAlerts p a).journal = s.journal := by cases p <;> rfl

@[simp] theorem State.setAlerts_settings (a : Alerts) : (s.setAlerts p a).settings = s.settings := by cases p <;> rfl

@[simp] theorem State.setAlerts_flushedCopy (a : Alerts) : (s.setAlerts p a).flushedCopy = s.flushedCopy := by cases p <;> rfl

@[simp] theorem State.alerts_setAlerts (a : Alerts) : (s.setAlerts p a).alerts p = a := by cases p <;> rfl

theorem State.alerts_setAlerts_ne {r : Port} (h : r ≠ p) (a : Alerts) : (s.setAlerts p a).alerts r = s.alerts r := by
  cases p <;> cases r <;> simp_all [State.setAlerts, State.alerts]

@[simp] theorem State.port_setAlerts (a : Alerts) (r : Port) : (s.setAlerts p a).port r = s.port r := by
  cases p <;> cases r <;> rfl

@[simp] theorem State.alerts_panel : s.alerts .panel = s.panelAlerts := rfl

@[simp] theorem State.alerts_drive : s.alerts .drive = s.driveAlerts := rfl

/-! ### `raiseOn` (R164) -/

@[simp] theorem raiseOn_pending (x : Alert) : (raiseOn x p s).pending = s.pending := by cases p <;> rfl

@[simp] theorem raiseOn_freeCount (x : Alert) : (raiseOn x p s).freeCount = s.freeCount := by cases p <;> rfl

@[simp] theorem raiseOn_vdd (x : Alert) : (raiseOn x p s).vdd = s.vdd := by cases p <;> rfl

@[simp] theorem raiseOn_vbk (x : Alert) : (raiseOn x p s).vbk = s.vbk := by cases p <;> rfl

@[simp] theorem raiseOn_rstn (x : Alert) : (raiseOn x p s).rstn = s.rstn := by cases p <;> rfl

@[simp] theorem raiseOn_panelPort (x : Alert) : (raiseOn x p s).panelPort = s.panelPort := by cases p <;> rfl

@[simp] theorem raiseOn_drivePort (x : Alert) : (raiseOn x p s).drivePort = s.drivePort := by cases p <;> rfl

@[simp] theorem raiseOn_lpr (x : Alert) : (raiseOn x p s).lpr = s.lpr := by cases p <;> rfl

@[simp] theorem raiseOn_built (x : Alert) : (raiseOn x p s).built = s.built := by cases p <;> rfl

@[simp] theorem raiseOn_freeze (x : Alert) : (raiseOn x p s).freeze = s.freeze := by cases p <;> rfl

@[simp] theorem raiseOn_tallies (x : Alert) : (raiseOn x p s).tallies = s.tallies := by cases p <;> rfl

@[simp] theorem raiseOn_preloaded (x : Alert) : (raiseOn x p s).preloaded = s.preloaded := by cases p <;> rfl

@[simp] theorem raiseOn_engine (x : Alert) : (raiseOn x p s).engine = s.engine := by cases p <;> rfl

@[simp] theorem raiseOn_storeFault (x : Alert) : (raiseOn x p s).storeFault = s.storeFault := by cases p <;> rfl

@[simp] theorem raiseOn_sensing (x : Alert) : (raiseOn x p s).sensing = s.sensing := by cases p <;> rfl

@[simp] theorem raiseOn_mains (x : Alert) : (raiseOn x p s).mains = s.mains := by cases p <;> rfl

@[simp] theorem raiseOn_plan (x : Alert) : (raiseOn x p s).plan = s.plan := by cases p <;> rfl

@[simp] theorem raiseOn_kept (x : Alert) : (raiseOn x p s).kept = s.kept := by cases p <;> rfl

@[simp] theorem raiseOn_handover (x : Alert) : (raiseOn x p s).handover = s.handover := by cases p <;> rfl

@[simp] theorem raiseOn_sched (x : Alert) : (raiseOn x p s).sched = s.sched := by cases p <;> rfl

@[simp] theorem raiseOn_seq (x : Alert) : (raiseOn x p s).seq = s.seq := by cases p <;> rfl

@[simp] theorem raiseOn_refs (x : Alert) : (raiseOn x p s).refs = s.refs := by cases p <;> rfl

@[simp] theorem raiseOn_outage (x : Alert) : (raiseOn x p s).outage = s.outage := by cases p <;> rfl

@[simp] theorem raiseOn_journal (x : Alert) : (raiseOn x p s).journal = s.journal := by cases p <;> rfl

@[simp] theorem raiseOn_settings (x : Alert) : (raiseOn x p s).settings = s.settings := by cases p <;> rfl

@[simp] theorem raiseOn_flushedCopy (x : Alert) : (raiseOn x p s).flushedCopy = s.flushedCopy := by cases p <;> rfl

/-! ### `raiseBoth` (R164) -/

@[simp] theorem raiseBoth_pending (x : Alert) : (raiseBoth x s).pending = s.pending := rfl

@[simp] theorem raiseBoth_freeCount (x : Alert) : (raiseBoth x s).freeCount = s.freeCount := rfl

@[simp] theorem raiseBoth_vdd (x : Alert) : (raiseBoth x s).vdd = s.vdd := rfl

@[simp] theorem raiseBoth_vbk (x : Alert) : (raiseBoth x s).vbk = s.vbk := rfl

@[simp] theorem raiseBoth_rstn (x : Alert) : (raiseBoth x s).rstn = s.rstn := rfl

@[simp] theorem raiseBoth_panelPort (x : Alert) : (raiseBoth x s).panelPort = s.panelPort := rfl

@[simp] theorem raiseBoth_drivePort (x : Alert) : (raiseBoth x s).drivePort = s.drivePort := rfl

@[simp] theorem raiseBoth_lpr (x : Alert) : (raiseBoth x s).lpr = s.lpr := rfl

@[simp] theorem raiseBoth_built (x : Alert) : (raiseBoth x s).built = s.built := rfl

@[simp] theorem raiseBoth_freeze (x : Alert) : (raiseBoth x s).freeze = s.freeze := rfl

@[simp] theorem raiseBoth_tallies (x : Alert) : (raiseBoth x s).tallies = s.tallies := rfl

@[simp] theorem raiseBoth_preloaded (x : Alert) : (raiseBoth x s).preloaded = s.preloaded := rfl

@[simp] theorem raiseBoth_engine (x : Alert) : (raiseBoth x s).engine = s.engine := rfl

@[simp] theorem raiseBoth_storeFault (x : Alert) : (raiseBoth x s).storeFault = s.storeFault := rfl

@[simp] theorem raiseBoth_sensing (x : Alert) : (raiseBoth x s).sensing = s.sensing := rfl

@[simp] theorem raiseBoth_mains (x : Alert) : (raiseBoth x s).mains = s.mains := rfl

@[simp] theorem raiseBoth_plan (x : Alert) : (raiseBoth x s).plan = s.plan := rfl

@[simp] theorem raiseBoth_kept (x : Alert) : (raiseBoth x s).kept = s.kept := rfl

@[simp] theorem raiseBoth_handover (x : Alert) : (raiseBoth x s).handover = s.handover := rfl

@[simp] theorem raiseBoth_sched (x : Alert) : (raiseBoth x s).sched = s.sched := rfl

@[simp] theorem raiseBoth_seq (x : Alert) : (raiseBoth x s).seq = s.seq := rfl

@[simp] theorem raiseBoth_refs (x : Alert) : (raiseBoth x s).refs = s.refs := rfl

@[simp] theorem raiseBoth_outage (x : Alert) : (raiseBoth x s).outage = s.outage := rfl

@[simp] theorem raiseBoth_journal (x : Alert) : (raiseBoth x s).journal = s.journal := rfl

@[simp] theorem raiseBoth_settings (x : Alert) : (raiseBoth x s).settings = s.settings := rfl

@[simp] theorem raiseBoth_flushedCopy (x : Alert) : (raiseBoth x s).flushedCopy = s.flushedCopy := rfl

@[simp] theorem raiseBoth_panelAlerts (x : Alert) : (raiseBoth x s).panelAlerts = s.panelAlerts.add x := rfl

@[simp] theorem raiseBoth_driveAlerts (x : Alert) : (raiseBoth x s).driveAlerts = s.driveAlerts.add x := rfl

@[simp] theorem raiseOn_alerts (x : Alert) : (raiseOn x p s).alerts p = (s.alerts p).add x := by cases p <;> rfl

/-! ### Alert sets -/

@[simp] theorem Alerts.add_levels (a : Alerts) (x : Alert) : (a.add x).levels = a.levels := rfl

@[simp] theorem Alerts.add_mask (a : Alerts) (x : Alert) : (a.add x).mask = a.mask := rfl

@[simp] theorem Alerts.add_taken (a : Alerts) (x : Alert) : (a.add x).taken = a.taken := rfl

@[simp] theorem Alerts.remove_levels (a : Alerts) (i : Fin 13) : (a.remove i).levels = a.levels := rfl

@[simp] theorem Alerts.remove_mask (a : Alerts) (i : Fin 13) : (a.remove i).mask = a.mask := rfl

/-- A source is pending after a raise if it was, or is the one raised (R164). -/
theorem Alerts.has_add (a : Alerts) (x : Alert) (i : Fin 13) : (a.add x).has i = (a.has i || i == x.num) := by
  simp only [Alerts.has, Alerts.add]
  by_cases h : i = x.num
  · subst h; simp
  · simp [h, Fin.val_inj, Ne.symm h]

/-- A source is pending after a removal if it was and is not the one removed. -/
theorem Alerts.has_remove (a : Alerts) (i j : Fin 13) : (a.remove i).has j = (a.has j && j != i) := by
  simp only [Alerts.has, Alerts.remove]
  by_cases h : j = i
  · subst h; simp
  · simp [h, Fin.val_inj, Ne.symm h]

/-! ### Ports -/

@[simp] theorem PortState.load_resp (q : PortState) (a : Answer) : (q.load a).resp = some a := rfl

@[simp] theorem PortState.load_synced (q : PortState) (a : Answer) : (q.load a).synced = q.synced := rfl

@[simp] theorem PortState.mark_synced (q : PortState) (m : Bool) : (q.mark m).synced = q.synced := rfl

@[simp] theorem PortState.mark_allOnes (q : PortState) (m : Bool) : (q.mark m).allOnes = m := rfl

@[simp] theorem PortState.mark_latch (q : PortState) (m : Bool) : (q.mark m).latch = q.latch := rfl

@[simp] theorem PortState.mark_monitor (q : PortState) (m : Bool) : (q.mark m).monitor = q.monitor := rfl

end Sys2Proof.Machine
end

