-- ==== Sys2Proof/Laws/Keeps.lean ====
section
/-! SUPPORT. What the shared operations leave alone, said once for each: the queue of commands, the supplies, both ports, the
journal, the settings, the flushed copy, and both ports' masks, levels and taken marks. -/

set_option Elab.async false

namespace Sys2Proof.Machine

/-- `t` agrees with `s` in what no shared operation touches. -/
structure Keeps (s t : State) : Prop where
  pending : t.pending = s.pending
  vdd : t.vdd = s.vdd
  vbk : t.vbk = s.vbk
  rstn : t.rstn = s.rstn
  panelPort : t.panelPort = s.panelPort
  drivePort : t.drivePort = s.drivePort
  journal : t.journal = s.journal
  settings : t.settings = s.settings
  flushedCopy : t.flushedCopy = s.flushedCopy
  panelMask : t.panelAlerts.mask = s.panelAlerts.mask
  panelLevels : t.panelAlerts.levels = s.panelAlerts.levels
  panelTaken : t.panelAlerts.taken = s.panelAlerts.taken
  driveMask : t.driveAlerts.mask = s.driveAlerts.mask
  driveLevels : t.driveAlerts.levels = s.driveAlerts.levels
  driveTaken : t.driveAlerts.taken = s.driveAlerts.taken

namespace Keeps

theorem refl (s : State) : Keeps s s := ⟨rfl, rfl, rfl, rfl, rfl, rfl, rfl, rfl, rfl, rfl, rfl, rfl, rfl, rfl, rfl⟩

theorem trans {s t u : State} (h : Keeps s t) (k : Keeps t u) : Keeps s u :=
  ⟨k.1.trans h.1, k.2.trans h.2, k.3.trans h.3, k.4.trans h.4, k.5.trans h.5, k.6.trans h.6, k.7.trans h.7, k.8.trans h.8,
   k.9.trans h.9, k.10.trans h.10, k.11.trans h.11, k.12.trans h.12, k.13.trans h.13, k.14.trans h.14, k.15.trans h.15⟩

/-- An update of other fields keeps. -/
theorem upd {s t : State}
    (h : t.pending = s.pending ∧ t.vdd = s.vdd ∧ t.vbk = s.vbk ∧ t.rstn = s.rstn ∧ t.panelPort = s.panelPort ∧
      t.drivePort = s.drivePort ∧ t.journal = s.journal ∧ t.settings = s.settings ∧ t.flushedCopy =
      s.flushedCopy ∧ t.panelAlerts.mask = s.panelAlerts.mask ∧ t.panelAlerts.levels = s.panelAlerts.levels ∧
      t.panelAlerts.taken = s.panelAlerts.taken ∧ t.driveAlerts.mask = s.driveAlerts.mask ∧
      t.driveAlerts.levels = s.driveAlerts.levels ∧ t.driveAlerts.taken = s.driveAlerts.taken := by
      exact ⟨rfl, rfl, rfl, rfl, rfl, rfl, rfl, rfl, rfl, rfl, rfl, rfl, rfl, rfl, rfl⟩) : Keeps s t := by
  obtain ⟨h1, h2, h3, h4, h5, h6, h7, h8, h9, h10, h11, h12, h13, h14, h15⟩ := h
  exact ⟨h1, h2, h3, h4, h5, h6, h7, h8, h9, h10, h11, h12, h13, h14, h15⟩

/-- Either branch keeps. -/
theorem ite {s a b : State} {c : Prop} [Decidable c] (h : Keeps s a) (k : Keeps s b) : Keeps s (if c then a else b) := by
  split <;> assumption

end Keeps

variable (s : State)

theorem raiseOn_keeps (x : Alert) (p : Port) : Keeps s (raiseOn x p s) := by cases p <;> exact Keeps.upd

theorem raiseBoth_keeps (x : Alert) : Keeps s (raiseBoth x s) := Keeps.upd

theorem request_keeps (o : Origin) : Keeps s (request o s) := Keeps.ite (Keeps.upd) (Keeps.upd)

theorem requestLastGasp_keeps : Keeps s (requestLastGasp s) := Keeps.ite (Keeps.upd) (Keeps.upd)

theorem requestPhase_keeps : Keeps s (requestPhase s) := Keeps.ite (request_keeps _ _) (Keeps.upd)

theorem startWork_keeps : Keeps s (startWork s) := by
  unfold startWork
  repeat' split
  all_goals exact Keeps.upd

theorem serve_keeps : Keeps s (serve s) := Keeps.ite (startWork_keeps s) (Keeps.upd)

theorem notifyWrap_keeps : Keeps s (notifyWrap s) := by
  unfold notifyWrap
  exact Keeps.ite (Keeps.trans (Keeps.upd) (request_keeps _ _)) (Keeps.upd)

theorem deliver_keeps (src : Source) (inc : Nat) : Keeps s (deliver src inc s) :=
  Keeps.ite (Keeps.upd) (Keeps.ite (Keeps.trans (Keeps.upd) (notifyWrap_keeps _)) (Keeps.upd))

theorem restoreTarget_keeps : Keeps s (restoreTarget s) := by
  unfold restoreTarget
  split <;> exact Keeps.upd

theorem endByChange_keeps (r : EndReason) : Keeps s (endByChange r s) := Keeps.ite (Keeps.upd) (Keeps.upd)

theorem changeToDone_keeps (r : EndReason) : Keeps s (changeToDone r s) := by
  have h : Keeps s (restoreTarget { putPhase .done 0 s with lpr.runReq := .stopped }) :=
    Keeps.trans (Keeps.upd) (restoreTarget_keeps _)
  exact Keeps.trans (Keeps.ite (h.trans (endByChange_keeps _ _)) h) (requestPhase_keeps _)

theorem writeDone_keeps (r : EndReason) : Keeps s (writeDone r s) := Keeps.ite (Keeps.upd) (changeToDone_keeps _ _)

theorem endOwn_keeps (r : EndReason) : Keeps s (endOwn r s) :=
  Keeps.trans (Keeps.trans (Keeps.upd) (writeDone_keeps _ _)) (raiseBoth_keeps _ _)

theorem windowTest_keeps : Keeps s (windowTest s) := Keeps.ite (endOwn_keeps _ _) (Keeps.upd)

theorem enterRest_keeps (ms : Nat) : Keeps s (enterRest ms s) := Keeps.trans (Keeps.upd) (windowTest_keeps _)

theorem freshStart_keeps : Keeps s (freshStart s) :=
  Keeps.ite (Keeps.trans (Keeps.upd) (endOwn_keeps _ _)) (Keeps.trans (Keeps.upd) (enterRest_keeps _ _))

theorem changePhase_keeps (ph : Phase) : Keeps s (changePhase ph s) := by
  have h1 : Keeps s (putPhase ph 0 s) := Keeps.upd
  have h2 : Keeps s (if s.lpr.phase = .anticrease then endByChange .phase (putPhase ph 0 s) else putPhase ph 0 s) :=
    Keeps.ite (h1.trans (endByChange_keeps _ _)) h1
  exact Keeps.ite (changeToDone_keeps _ _) (Keeps.trans (Keeps.ite (h2.trans (freshStart_keeps _)) h2) (requestPhase_keeps _))

theorem enterDue_keeps : Keeps s (enterDue s) := Keeps.upd

theorem enterRecovery_keeps (n : Nat) : Keeps s (enterRecovery n s) := Keeps.upd

theorem planStart_keeps (pl : Plan) : Keeps s (planStart pl s) :=
  Keeps.ite (Keeps.upd) (Keeps.trans (Keeps.upd) (enterRest_keeps _ _))

theorem idleSched_keeps : Keeps s (idleSched s) := Keeps.ite (Keeps.upd) (Keeps.upd)

theorem suspendSched_keeps : Keeps s (suspendSched s) := Keeps.ite ((enterRest_keeps _ _).trans (serve_keeps _)) (Keeps.upd)

theorem appendItem_keeps (k : ItemKind) (a : Option Nat) : Keeps s (appendItem k a s) := Keeps.upd

/-! ### The hand-over -/

theorem mainsDips_keeps : Keeps s (mainsDips s) := Keeps.ite (deliver_keeps _ _ _) (Keeps.upd)

theorem close_keeps : Keeps s (close s) :=
  Keeps.trans (t := request .resume (mainsDips (closeChain { s with freeze.ret := false })))
    (Keeps.trans (Keeps.trans Keeps.upd (mainsDips_keeps _)) (request_keeps _ _)) Keeps.upd

theorem carryEnd_keeps : Keeps s (carryEnd s) := Keeps.trans (writeDone_keeps _ _) (close_keeps _)

theorem republish_keeps (p : Plan) : Keeps s (republish p s) := Keeps.ite (Keeps.upd) (Keeps.upd)

theorem recomputeAuto_keeps : Keeps s (recomputeAuto s) := by
  unfold recomputeAuto
  split
  · exact Keeps.upd
  · dsimp only
    split
    · exact Keeps.trans (republish_keeps _ _) (Keeps.upd)
    · exact Keeps.trans (republish_keeps _ _) (carryEnd_keeps _)
    · exact republish_keeps _ _
    · exact republish_keeps _ _

theorem recomputeConfirm_keeps : Keeps s (recomputeConfirm s).1 := by
  unfold recomputeConfirm
  split
  · exact Keeps.upd
  · dsimp only
    split
    · exact Keeps.trans (republish_keeps _ _) (Keeps.upd)
    · exact Keeps.trans (republish_keeps _ _) (Keeps.upd)
    · exact Keeps.trans (republish_keeps _ _) (carryEnd_keeps _)
    · exact republish_keeps _ _

theorem newLogItem_keeps (k : ItemKind) : Keeps s (newLogItem k s) := by
  unfold newLogItem
  split
  · exact Keeps.ite (Keeps.upd) (Keeps.upd)
  · exact recomputeAuto_keeps _
  · exact Keeps.ite (Keeps.upd) (Keeps.upd)
  · exact Keeps.upd
  · exact Keeps.upd

theorem senseItem_keeps (k : ItemKind) (a : Option Nat) : Keeps s (senseItem k a s) :=
  Keeps.trans (appendItem_keeps _ _ _) (newLogItem_keeps _ _)

theorem build_keeps (e : Option Entry) : Keeps s (build e s) := Keeps.upd

theorem actOnVerdict_keeps (v : Verdict) : Keeps s (actOnVerdict v s) := by
  cases v
  · exact close_keeps _
  · exact Keeps.ite (Keeps.trans (Keeps.upd) (recomputeAuto_keeps _)) (Keeps.upd)
  · exact Keeps.upd
  · exact carryEnd_keeps _

theorem endEvaluation_keeps (k : Kept) : Keeps s (endEvaluation k s) :=
  Keeps.trans
    (t := actOnVerdict ((s.evalIn k false).plan 1).verdict
      (publish ((s.evalIn k false).plan 1) (build k.entry { s with kept := some k })))
    (Keeps.trans (t := publish ((s.evalIn k false).plan 1) (build k.entry { s with kept := some k })) Keeps.upd
      (actOnVerdict_keeps _ _)) Keeps.upd

theorem adoption_keeps (n : Option Word) : Keeps s (adoption n s) := Keeps.ite (Keeps.upd) (Keeps.upd)

theorem preloadTarget_keeps (pl : Plan) : Keeps s (preloadTarget pl s) := by
  unfold preloadTarget
  repeat' split
  all_goals exact Keeps.upd

theorem applyPhase_keeps (pl : Plan) : Keeps s (applyPhase pl s) := by
  unfold applyPhase
  split
  · exact Keeps.upd
  · split
    · exact changeToDone_keeps _ _
    · exact Keeps.ite (Keeps.trans (Keeps.upd) (endByChange_keeps (putPhase pl.target pl.applyClock s) _)) (Keeps.upd)

theorem applyRequest_keeps (pl : Plan) (old : Phase) : Keeps s (applyRequest pl old s) :=
  Keeps.ite (Keeps.upd) (requestPhase_keeps _)

theorem apply_keeps (pl : Plan) : Keeps s (apply pl s) := by
  have h : Keeps s (applyPhase pl (preloadTarget pl { s with lpr.deficit := pl.dPrime, lpr.runReq := .run })) :=
    Keeps.trans (Keeps.trans (Keeps.upd) (preloadTarget_keeps _ _)) (applyPhase_keeps _ _)
  exact Keeps.trans
    (Keeps.ite (Keeps.trans (Keeps.trans h (Keeps.upd)) (planStart_keeps _ _)) (Keeps.trans h (Keeps.upd)))
    (applyRequest_keeps _ _ _)

/-! ### Sensing -/

theorem doorToSched_keeps : Keeps s (doorToSched s) := Keeps.ite (endOwn_keeps _ _) (Keeps.upd)

theorem doorOpening_keeps (d : Door) : Keeps s (doorOpening d s) :=
  Keeps.ite (Keeps.trans (deliver_keeps _ _ _) (doorToSched_keeps _)) (Keeps.upd)

theorem doorToRecord_keeps (d : Door) : Keeps s (doorToRecord d s) :=
  Keeps.ite (Keeps.trans (Keeps.upd) (senseItem_keeps _ _ _)) (Keeps.ite (Keeps.upd) (Keeps.upd))

theorem doorChangeTo_keeps (d : Door) : Keeps s (doorChangeTo d s) :=
  Keeps.trans (t := doorToRecord d (doorOpening d { s with sensing.door := some d }))
    (Keeps.trans (Keeps.trans Keeps.upd (doorOpening_keeps _ d)) (doorToRecord_keeps _ d)) (raiseBoth_keeps _ _)

theorem catchUpDoor_keeps : Keeps s (catchUpDoor s) := by
  unfold catchUpDoor
  split
  · exact Keeps.upd
  · exact Keeps.ite (doorChangeTo_keeps _ _) (Keeps.upd)

theorem acceptDoor_keeps (d : Door) : Keeps s (acceptDoor d s) := by
  unfold acceptDoor
  split
  · exact Keeps.ite (Keeps.trans (Keeps.upd) (catchUpDoor_keeps _)) (Keeps.upd)
  · exact Keeps.ite (Keeps.upd) (doorChangeTo_keeps _ _)

theorem closeBurst_keeps : Keeps s (closeBurst s) := by
  unfold closeBurst
  split
  · exact Keeps.upd
  · exact Keeps.trans (Keeps.upd) (senseItem_keeps _ _ _)

theorem stepToRecord_keeps (d : Dir) : Keeps s (stepToRecord d s) := Keeps.upd

theorem quadToRefs_keeps (q : Quad) : Keeps s (quadToRefs q s) := Keeps.ite (Keeps.upd) (Keeps.upd)

theorem quadStepTo_keeps (q : Quad) (d : Dir) : Keeps s (quadStepTo q d s) := by
  have h2 (u : State) (b : Prop) [Decidable b] (h : Keeps s u) : Keeps s (if b then deliver .reversals 1 u else u) :=
    Keeps.ite (h.trans (deliver_keeps _ _ _)) h
  have h4 (u : State) (b : Bool) (h : Keeps s u) : Keeps s (if b then deliver .drumTurns 1 u else u) :=
    Keeps.ite (h.trans (deliver_keeps _ _ _)) h
  have h5 (u : State) (h : Keeps s u) : Keeps s (quadToRefs q (if u.logger then stepToRecord d u else u)) :=
    Keeps.trans (Keeps.ite (h.trans (stepToRecord_keeps _ _)) h) (quadToRefs_keeps _ _)
  have h3 (u : State) (a : Option Dir) (b : Int) (h : Keeps s u) :
      Keeps s { u with sensing.prevDir := a, sensing.acc := b } := h.trans Keeps.upd
  unfold quadStepTo
  exact h5 _ (h4 _ _ (h3 _ _ _ (h2 _ _ Keeps.upd)))

theorem jumpToRecord_keeps : Keeps s (jumpToRecord s) := by
  have h := closeBurst_keeps s
  exact Keeps.ite (h.trans (Keeps.trans (Keeps.upd) (senseItem_keeps _ _ _))) h

theorem quadJumpTo_keeps (q : Quad) : Keeps s (quadJumpTo q s) := by
  have h : Keeps s (quadToRefs q
      { s with sensing.quad := some q, sensing.quadFaults := min 255 (s.sensing.quadFaults + 1) }) :=
    Keeps.trans (Keeps.upd) (quadToRefs_keeps _ _)
  exact Keeps.ite (h.trans (jumpToRecord_keeps _)) h

theorem catchUpQuad_keeps : Keeps s (catchUpQuad s) := by
  unfold catchUpQuad
  split
  · exact Keeps.upd
  · dsimp only
    split
    · exact Keeps.upd
    · split
      · exact Keeps.upd
      · exact Keeps.upd
      · exact Keeps.trans (Keeps.upd) (jumpToRecord_keeps _)

theorem acceptQuad_keeps (q : Quad) : Keeps s (acceptQuad q s) := by
  unfold acceptQuad
  split
  · exact Keeps.ite (Keeps.trans (Keeps.upd) (catchUpQuad_keeps _)) (Keeps.upd)
  · split
    · exact Keeps.upd
    · exact quadStepTo_keeps _ _ _
    · exact quadJumpTo_keeps _ _

theorem heaterSecond_keeps : Keeps s (heaterSecond s) := Keeps.ite (deliver_keeps _ _ _) (Keeps.upd)

theorem tempSecond_keeps : Keeps s (tempSecond s) := deliver_keeps _ _ _

theorem secondEnds_keeps (mv : Nat) (b : Bool) : Keeps s (secondEnds mv b s) := by
  have h : Keeps s (if b then heaterSecond (tempSecond s) else tempSecond (heaterSecond s)) :=
    Keeps.ite ((tempSecond_keeps s).trans (heaterSecond_keeps _)) ((heaterSecond_keeps s).trans (tempSecond_keeps _))
  have h1 (u : State) : Keeps u (doorOpenSecond u) := Keeps.ite Keeps.upd Keeps.upd
  have h2 (u : State) (h : Keeps s u) (m : Option Nat) :
      Keeps s { u with sensing := { u.sensing with htsHighs := 0, secondMs := 0, backupMv := m } } := h.trans Keeps.upd
  exact h2 _ (h.trans (h1 _)) _

theorem catchUpTemp_keeps : Keeps s (catchUpTemp s) := by
  have h : Keeps s (if s.sensing.fault && !s.sensing.faultAsLogger then senseItem .sensorFault none s else s) :=
    Keeps.ite (senseItem_keeps _ _ _) (Keeps.upd)
  unfold catchUpTemp
  dsimp only
  split
  · exact h
  · exact h.trans (Keeps.upd)

theorem startEvaluation_keeps : Keeps s (startEvaluation s) :=
  Keeps.trans (Keeps.trans (Keeps.trans (Keeps.trans (Keeps.upd) (idleSched_keeps _)) (catchUpDoor_keeps _))
    (catchUpQuad_keeps _)) (catchUpTemp_keeps _)

/-! ### The outage watch and the supervisor -/

theorem watchEntry_keeps : Keeps s (watchEntry s) := Keeps.ite (Keeps.upd) (Keeps.upd)

theorem closeSeqBurst_keeps : Keeps s (closeSeqBurst s) := by
  unfold closeSeqBurst
  split <;> exact Keeps.upd

theorem watchExit_keeps : Keeps s (watchExit s) := by
  have h (u : State) (q : Sequencer) (h : Keeps s u) : Keeps s { u with seq := q } := h.trans Keeps.upd
  unfold watchExit
  split
  · exact h _ _ ((closeSeqBurst_keeps _).trans (appendItem_keeps _ _ _))
  · exact appendItem_keeps _ _ _
  · exact h _ _ (appendItem_keeps _ _ _)
  · exact h _ _ (appendItem_keeps _ _ _)

theorem loss_keeps : Keeps s (loss s) := by
  have h2 (u : State) : Keeps u (lossToHandOver u) := Keeps.ite (Keeps.upd) (Keeps.upd)
  have h5 (u : State) : Keeps u (lossToBurst u) := by
    unfold lossToBurst
    split <;> exact Keeps.upd
  have h7 (u : State) : Keeps u (lossToChain u) := Keeps.ite (Keeps.upd) (Keeps.upd)
  have h3 (u : State) : Keeps u (raiseBoth .mainsLoss (abandonScan u)) := Keeps.upd
  have h6 (u : State) (h : Keeps s u) : Keeps s { u with engine.queue := [] } := h.trans Keeps.upd
  have h8 (u : State) (n : Option Nat) (h : Keeps s u) : Keeps s { u with mains.window := n } := h.trans Keeps.upd
  unfold loss
  exact h8 _ _ ((h6 _ ((((Keeps.trans Keeps.upd (h2 _)).trans (h3 _)).trans (idleSched_keeps _)).trans
    (h5 _))).trans (h7 _) |>.trans (watchEntry_keeps _))

theorem makeLastGasp_keeps : Keeps s (makeLastGasp s) := Keeps.trans (Keeps.upd) (requestLastGasp_keeps _)

theorem returnWithChain_keeps : Keeps s (returnWithChain s) :=
  Keeps.trans (Keeps.trans (Keeps.upd) (watchExit_keeps _)) (startEvaluation_keeps _)

theorem endFading_keeps : Keeps s (endFading s) :=
  Keeps.ite (Keeps.trans (Keeps.upd) (returnWithChain_keeps _)) (Keeps.upd)

theorem qualify_keeps : Keeps s (qualify s) := by
  unfold qualify
  split
  · exact Keeps.ite (returnWithChain_keeps _) (Keeps.upd)
  · unfold qualifyFading
    split
    · exact Keeps.trans (Keeps.upd) (makeLastGasp_keeps _)
    · exact Keeps.upd
    · exact returnWithChain_keeps _
  · exact returnWithChain_keeps _
  · exact Keeps.upd

theorem pulse_keeps (n : Nat) : Keeps s (pulse n s) :=
  Keeps.ite (Keeps.upd) (Keeps.ite (Keeps.trans (Keeps.upd) (qualify_keeps _)) (Keeps.upd))

end Sys2Proof.Machine
end

