-- ==== Sys2Proof/Laws/Acts.lean ====
section
/-! SUPPORT. What the machine's shared acts do, each said once in the terms of Safety.lean, for proofs to cite instead of unfolding
them: requests, the outage log's items, sensing's records, changes of the phase, the close of a hand-over, a door change. -/

set_option Elab.async false

namespace Sys2Proof.Machine

variable (s : State)

/-! ### Requests -/

theorem absorb_other (o : Origin) (snap : Snapshot) (r : Request) (h : r.isOrigin o = false) : r.absorb o snap = r := by
  simp [Request.absorb, h]

theorem isOrigin_absorb (o : Origin) (snap : Snapshot) (r : Request) : (r.absorb o snap).isOrigin o = r.isOrigin o := by
  unfold Request.absorb
  split <;> simp_all [Request.isOrigin]

/-- Requests of other origins stand as they did when a waiting one of origin `o` absorbs a snapshot. -/
theorem filter_map_absorb (o : Origin) (snap : Snapshot) (q : List Request) :
    (q.map (Request.absorb o snap)).filter (fun r => !r.isOrigin o) = q.filter (fun r => !r.isOrigin o) := by
  induction q with
  | nil => rfl
  | cons r q ih =>
    simp only [List.map_cons, List.filter_cons, isOrigin_absorb, ih]
    cases h : r.isOrigin o <;> simp [absorb_other, h]

theorem requested_map (o : Origin) (snap : Snapshot) (q : List Request) (h : q.any (Request.isOrigin o) = true) :
    requested o snap q (q.map (Request.absorb o snap)) := by
  refine ⟨?_, filter_map_absorb o snap q⟩
  obtain ⟨r, hr, ho⟩ := List.any_eq_true.mp h
  exact List.mem_map.mpr ⟨r, hr, by simp [Request.absorb, ho]⟩

theorem requested_append (o : Origin) (snap : Snapshot) (q : List Request) : requested o snap q (q ++ [.journal o snap]) := by
  refine ⟨by simp, ?_⟩
  simp [List.filter_append, Request.isOrigin]

/-- What a request does: nothing but the queue moves, and that as `requested` says. -/
theorem request_requested (o : Origin) :
    ∃ q, requested o s.snapshot s.engine.queue q ∧ request o s = { s with engine := { s.engine with queue := q } } := by
  unfold request
  split
  · exact ⟨_, requested_map _ _ _ ‹_›, rfl⟩
  · exact ⟨_, requested_append _ _ _, rfl⟩

/-- What a PHASE request does. -/
theorem requestPhase_cases : ∃ q, requestPhase s = { s with engine := { s.engine with queue := q } }
    ∧ phaseRequested s { s with engine := { s.engine with queue := q } } := by
  unfold requestPhase phaseRequested
  split
  · obtain ⟨q, h, e⟩ := request_requested s .phase
    exact ⟨q, e, h⟩
  · exact ⟨_, rfl, rfl⟩

/-! ### The outage log -/

/-- What an offered item does: nothing but the outage record moves, and that as `itemTaken` says. -/
theorem appendItem_taken (k : ItemKind) (a : Option Nat) :
    ∃ o, itemTaken k a s.outage o ∧ appendItem k a s = { s with outage := o } := by
  refine ⟨(appendItem k a s).outage, ⟨fun h => ?_, fun h l last hl => ?_⟩, rfl⟩
  · simp [appendItem, offerItem, h]
  · have hn : ¬l.length + 1 < 24 := by simp [hl] at h; omega
    by_cases h1 : k = .drumMove <;> by_cases h2 : last.kind = .drumMove <;> simp [appendItem, offerItem, hn, hl, h1, h2]

/-- What an item of sensing does. -/
theorem senseItem_taken (k : ItemKind) (a : Option Nat) :
    ∃ o, itemTaken k a s.outage o ∧ senseItem k a s = newLogItem k { s with outage := o } := by
  obtain ⟨o, h, e⟩ := appendItem_taken s k a
  exact ⟨o, h, by rw [senseItem, e]⟩

/-- The close of sensing's burst is as `burstClosed` says. -/
theorem closeBurst_closed : burstClosed s (closeBurst s) := by
  refine ⟨fun h => by simp [closeBurst, h], fun n h => ?_⟩
  obtain ⟨o, ht, e⟩ := senseItem_taken { s with sensing.burst := none } .drumMove (some n)
  exact ⟨o, ht, by rw [← e]; simp [closeBurst, h]⟩

/-- The logger's record of an illegal jump is as `jumpRecorded` says. -/
theorem jumpToRecord_recorded : jumpRecorded s (jumpToRecord s) := by
  refine ⟨closeBurst s, closeBurst_closed s, fun h => by simp [jumpToRecord, h], fun h => ?_⟩
  obtain ⟨o, ht, e⟩ := senseItem_taken { closeBurst s with outage.summary := (closeBurst s).outage.summary.addAmbiguous }
    .motionUncertain none
  exact ⟨o, ht, by rw [jumpToRecord]; simp only [h, if_true]; rw [e]⟩

/-! ### Changes of the phase -/

theorem restoreTarget_restored :
    ∃ ts, restoredTallies s ts ∧ restoreTarget s = { s with tallies := ts, preloaded := none } := by
  unfold restoreTarget restoredTallies
  cases h : s.preloaded with
  | none => exact ⟨s.tallies, by simp, by cases s; simp_all⟩
  | some t =>
    refine ⟨_, fun i => ?_, rfl⟩
    by_cases e : t = i
    · subst e; simp
    · have : (i : Nat) ≠ t := fun h => e (Fin.ext h.symm)
      simp [e, Ne.symm this]

/-- A change into DONE is as `changedToDone` says. -/
theorem changeToDone_changed (r : EndReason) : changedToDone r s (changeToDone r s) := by
  obtain ⟨ts, hts, e⟩ := restoreTarget_restored { putPhase .done 0 s with lpr.runReq := .stopped }
  unfold changeToDone
  rw [e]
  by_cases h : s.lpr.phase = .anticrease
  · simp only [h, if_true, endByChange]
    by_cases ht : s.sched.state.timed = true
    · simp only [putPhase, ht, if_true]
      obtain ⟨q, eq, hq⟩ := requestPhase_cases (raiseBoth .anticreaseEnd (endSched r
        { s with lpr := { s.lpr with phase := .done, phaseClock := 0, partMs := 0, runReq := .stopped },
                 tallies := ts, preloaded := none }))
      exact ⟨ts, _, _, _, q, eq, hts, by simp only [h, ht]; exact ⟨rfl, rfl, rfl⟩, by rw [eq]; exact hq⟩
    · simp only [putPhase, ht, Bool.false_eq_true, if_false]
      obtain ⟨q, eq, hq⟩ := requestPhase_cases
        { s with lpr := { s.lpr with phase := .done, phaseClock := 0, partMs := 0, runReq := .stopped },
                 tallies := ts, preloaded := none }
      exact ⟨ts, _, _, _, q, eq, hts, by simp [h, ht], by rw [eq]; exact hq⟩
  · simp only [h, if_false, putPhase]
    obtain ⟨q, eq, hq⟩ := requestPhase_cases
      { s with lpr := { s.lpr with phase := .done, phaseClock := 0, partMs := 0, runReq := .stopped },
               tallies := ts, preloaded := none }
    exact ⟨ts, _, _, _, q, eq, hts, by simp [h], by rw [eq]; exact hq⟩

/-- A part write of DONE is as `partWroteDone` says. -/
theorem writeDone_wrote (r : EndReason) : partWroteDone r s (writeDone r s) := by
  unfold partWroteDone writeDone
  split
  · rfl
  · exact changeToDone_changed s r

/-- An ending of the scheduler's own is as `schedulerEnded` says. -/
theorem endOwn_ended (r : EndReason) : schedulerEnded r s (endOwn r s) :=
  ⟨_, writeDone_wrote (endSched r s) .phase, rfl⟩

/-! ### The close and the door -/

/-- The close of a hand-over is as `chainClosed` says. -/
theorem close_closed : chainClosed s (close s) := by
  obtain ⟨q, hq, e⟩ := request_requested (mainsDips (closeChain { s with freeze.ret := false })) .resume
  exact ⟨_, _, q, rfl, rfl, hq, by unfold close; rw [e]; rfl⟩

/-- What the watch, the supervisor and the hand-over hold. -/
def State.watching (s : State) : Outage × Refs × HandOver × Mains × Sequencer :=
  (s.outage, s.refs, s.handover, s.mains, s.seq)

theorem request_watching (o : Origin) : (request o s).watching = s.watching := by
  unfold request; split <;> rfl

theorem deliver_watching (src : Source) (inc : Nat) : (deliver src inc s).watching = s.watching := by
  have h (u : State) : (notifyWrap u).watching = u.watching := by
    unfold notifyWrap
    split
    · exact request_watching _ _
    · rfl
  unfold deliver
  split
  · rfl
  · split
    · exact h _
    · rfl

theorem deliver_sched (src : Source) (inc : Nat) : (deliver src inc s).sched = s.sched := by
  have hq (u : State) (o : Origin) : (request o u).sched = u.sched := by
    unfold request; split <;> rfl
  have h (u : State) : (notifyWrap u).sched = u.sched := by
    unfold notifyWrap
    split
    · exact hq _ _
    · rfl
  unfold deliver
  split
  · rfl
  · split
    · exact h _
    · rfl

theorem changeToDone_watching (r : EndReason) : (changeToDone r s).watching = s.watching := by
  obtain ⟨_, _, _, _, _, e, _⟩ := changeToDone_changed s r
  rw [e]; rfl

theorem endOwn_watching (r : EndReason) : (endOwn r s).watching = s.watching := by
  have h (u : State) : (writeDone .phase u).watching = u.watching := by
    unfold writeDone
    split
    · rfl
    · exact changeToDone_watching _ _
  exact (h _).trans rfl

theorem logger_of_watching {s t : State} (h : t.watching = s.watching) : t.logger = s.logger := by
  simp only [State.watching, Prod.mk.injEq] at h
  simp [State.logger, h.1, h.2.2.1]

/-- The record's part in a door change, over a state `c` that watches as `s` does. -/
theorem doorToRecord_recorded {s c : State} (d : Door) (h : c.watching = s.watching) :
    (s.logger = true → ∃ o, itemTaken (if d = .opened then .doorOpen else .doorClose) none
        { s.outage with
          summary := { s.outage.summary with doorOpened := s.outage.summary.doorOpened || d == .opened } } o
      ∧ doorToRecord d c = newLogItem (if d = .opened then .doorOpen else .doorClose)
          { c with refs := { s.refs with door := some d }, outage := o })
    ∧ (s.logger = false →
      doorToRecord d c = { c with refs := if s.outage.chainOpen then s.refs else { s.refs with door := some d } }) := by
  have hl := logger_of_watching h
  simp only [State.watching, Prod.mk.injEq] at h
  obtain ⟨ho, hr, -, -, -⟩ := h
  rw [← hl, ← ho, ← hr]
  refine ⟨fun h => ?_, fun h => ?_⟩
  · obtain ⟨o, ht, e⟩ := senseItem_taken
      { c with refs.door := some d, outage.summary.doorOpened := c.outage.summary.doorOpened || d == .opened }
      (if d = .opened then .doorOpen else .doorClose) none
    exact ⟨o, ht, by simp only [doorToRecord, h, if_true]; rw [e]⟩
  · simp only [doorToRecord, h, Bool.false_eq_true, if_false]
    cases c.outage.chainOpen <;> rfl

/-- A door change handed on is as `doorHandedOn` says. -/
theorem doorChangeTo_handedOn (d : Door) : doorHandedOn d s (doorChangeTo d s) := by
  have hs : (if d = .opened then deliver .doorOpenings 1 { s with sensing.door := some d }
      else { s with sensing.door := some d }).sched = s.sched := by
    split
    · exact deliver_sched _ _ _
    · rfl
  have hb : (doorOpening d { s with sensing.door := some d }).watching = s.watching := by
    unfold doorOpening doorToSched
    split
    · split
      · exact (endOwn_watching _ _).trans ((deliver_watching _ _ _).trans rfl)
      · exact (deliver_watching _ _ _).trans rfl
    · rfl
  obtain ⟨h1, h2⟩ := doorToRecord_recorded d hb
  refine ⟨_, doorOpening d { s with sensing.door := some d }, _, _, rfl, rfl, ?_, ?_, h1, h2, rfl⟩
  · rintro ⟨rfl, ht⟩
    simp only [if_true] at hs ⊢
    simp only [doorOpening, if_true, doorToSched, hs, ht]
    exact endOwn_ended _ _
  · rintro (rfl | ht)
    · rfl
    · by_cases hd : d = .opened
      · simp only [hd, if_true] at hs ⊢
        simp only [doorOpening, if_true, doorToSched, hs, ht, Bool.false_eq_true, if_false]
      · simp only [doorOpening, hd, if_false]

/-! ### The start of an evaluation -/

/-- What a mains qualification does to the sequencer is as `sequencerLeft` says. -/
theorem watchExit_left : sequencerLeft s (watchExit s) := by
  cases h : s.seq.state with
  | watch =>
    cases hb : s.seq.burst with
    | none =>
      obtain ⟨o, ht, e⟩ := appendItem_taken s .mainsReturn none
      refine ⟨s.outage, o, fun n _ e => by simp [hb] at e, fun _ => rfl, ht, ?_⟩
      unfold watchExit
      rw [h]
      dsimp only
      rw [show closeSeqBurst s = s by simp [closeSeqBurst, hb], e]
      dsimp only
      rw [hb]
    | some n =>
      obtain ⟨b, htb, eb⟩ := appendItem_taken { s with seq.burst := none } .drumMove (some n)
      obtain ⟨o, ht, e⟩ := appendItem_taken { s with seq.burst := none, outage := b } .mainsReturn none
      refine ⟨b, o, fun k _ e => by cases hb.symm.trans e; exact htb, fun e => by simp [h, hb] at e, ht, ?_⟩
      unfold watchExit
      rw [h]
      dsimp only
      rw [show closeSeqBurst s = appendItem .drumMove (some n) { s with seq.burst := none } by simp [closeSeqBurst, hb], eb]
      exact congrArg (fun x : State => { x with seq := { x.seq with state := .dormant, pace := 0, quiet := 0 } }) e
  | dormant | flushing | spent =>
    obtain ⟨o, ht, e⟩ := appendItem_taken s .mainsReturn none
    refine ⟨s.outage, o, fun n e => by simp [h] at e, fun _ => rfl, ht, ?_⟩
    unfold watchExit
    rw [h]
    dsimp only
    rw [e]

/-- The catch-up for the door is as `doorCaughtUp` says. -/
theorem catchUpDoor_caughtUp : doorCaughtUp s (catchUpDoor s) := by
  refine ⟨fun h => by simp [catchUpDoor, h], fun d h => ⟨fun hr => ?_, fun h1 h2 => ?_⟩⟩
  · simp only [catchUpDoor, h]
    rw [if_neg (by rcases hr with hr | hr <;> simp [hr])]
  · simp only [catchUpDoor, h]
    rw [if_pos (by cases hr : s.refs.door <;> simp_all)]
    exact doorChangeTo_handedOn s d

/-- The catch-up for the drum is as `quadCaughtUp` says. -/
theorem catchUpQuad_caughtUp : quadCaughtUp s (catchUpQuad s) := by
  refine ⟨fun h => by simp [catchUpQuad, h], fun q v h hv => ?_⟩
  subst hv
  simp only [catchUpQuad, h]
  refine ⟨fun hr => ?_, fun a d hr hq => ?_, fun a hr hq => ?_⟩
  · rcases hr with hr | hr
    · simp only [hr]
    · have : quadMove q q = .same := by cases q <;> rfl
      simp only [hr, this]
  · simp only [hr, hq]
    cases d <;> simp [h, stepToRecord, burstStep, Summary.addStep, netPlus]
  · simp only [hr, hq]
    exact jumpToRecord_recorded _

/-- The catch-up for the thermistor is as `tempCaughtUp` says. -/
theorem catchUpTemp_caughtUp : tempCaughtUp s (catchUpTemp s) := by
  refine ⟨if s.sensing.fault && !s.sensing.faultAsLogger then senseItem .sensorFault none s else s,
    fun h1 h2 => ?_, fun h => ?_, ?_⟩
  · obtain ⟨o, ht, e⟩ := senseItem_taken s .sensorFault none
    exact ⟨o, ht, by simp [h1, h2, e]⟩
  · rw [if_neg (by rcases h with h | h <;> simp [h])]
  · unfold catchUpTemp
    dsimp only
    generalize (if (s.sensing.fault && !s.sensing.faultAsLogger) = true then senseItem .sensorFault none s else s) = v
    cases hv : v.sensing.lastTemp <;> rfl

/-- The start of an evaluation, step by step. -/
theorem startEvaluation_steps : ∃ e d q, evaluationBegun s e ∧ doorCaughtUp e d ∧ quadCaughtUp d q
    ∧ tempCaughtUp q (startEvaluation s) := by
  refine ⟨_, _, _, ?_, catchUpDoor_caughtUp _, catchUpQuad_caughtUp _, catchUpTemp_caughtUp _⟩
  unfold evaluationBegun idleSched
  dsimp only
  split <;> rfl

/-! ### The temperature table -/

/-- A table's point as used, by its two numbers. -/
theorem tablePoint_eq (t : Vector Word 18) (k : Fin 9) : tablePoint t k = (codeAt t k, degreesAt t k) := by
  have h1 : (k.val * 2 % 2 == 0) = true := by simp
  have h2 : ((k.val * 2 + 1) % 2 == 0) = false := by simp [Nat.add_mod]
  simp only [tablePoint, itemRange, useWord, h1, h2, if_true, Bool.false_eq_true, if_false, codeAt, degreesAt, Prod.mk.injEq]
  exact ⟨by simp only [Fin.getElem_fin]; omega, rfl⟩

/-- A table can be used where its codes rise. -/
theorem tableUsable_iff (t : Vector Word 18) : tableUsable t = true ↔ codesRise t := by
  simp [tableUsable, tablePoints, List.finRange, List.ofFn, tablePoint_eq, increasing, codesRise,
    Fin.forall_fin_succ, Fin.foldr, Fin.foldr.loop]

/-- A table read at a code no higher than its first. -/
theorem lookup_below {c : Nat} {a : Nat × Int} {l : List (Nat × Int)} (h : c ≤ a.1) : lookup c (a :: l) = a.2 := by
  cases l with
  | nil => rfl
  | cons b l => simp only [lookup, if_pos h]

/-- A table read at or above the code of its second point: the points from there on decide. -/
theorem lookup_above {c : Nat} {a b : Nat × Int} {l : List (Nat × Int)} (hab : a.1 < b.1) (h : b.1 ≤ c) :
    lookup c (a :: b :: l) = lookup c (b :: l) := by
  simp only [lookup, if_neg (by omega : ¬ c ≤ a.1), if_neg (by omega : ¬ c < b.1)]

/-- A table read between its first two points. -/
theorem lookup_between {c : Nat} {a b : Nat × Int} {l : List (Nat × Int)} (h1 : a.1 < c) (h2 : c < b.1) :
    lookup c (a :: b :: l) = interpolate c a b := by
  simp only [lookup, if_neg (by omega : ¬ c ≤ a.1), if_pos h2]

/-- The interpolated value is the exact one rounded to the nearest whole, a half upwards. -/
theorem interpolate_rounds {c : Nat} {a b : Nat × Int} (h : a.1 < b.1) :
    2 * ((b.1 : Int) - a.1) * interpolate c a b ≤ 2 * (a.2 * (b.1 - a.1) + (c - a.1) * (b.2 - a.2)) + (b.1 - a.1)
    ∧ 2 * (a.2 * ((b.1 : Int) - a.1) + (c - a.1) * (b.2 - a.2)) + (b.1 - a.1)
      < 2 * ((b.1 : Int) - a.1) * (interpolate c a b + 1) := by
  unfold interpolate
  dsimp only
  generalize 2 * (a.2 * ((b.1 : Int) - a.1) + (c - a.1) * (b.2 - a.2)) + ((b.1 : Int) - a.1) = n
  have hp : (0 : Int) < 2 * ((b.1 : Int) - a.1) := by omega
  exact ⟨Int.mul_ediv_self_le hp.ne', Int.lt_mul_ediv_self_add hp |>.trans_eq (by ring)⟩

/-- The nine points of a table as used. -/
theorem tablePoints_eq (t : Vector Word 18) : tablePoints t =
    [(codeAt t 0, degreesAt t 0), (codeAt t 1, degreesAt t 1), (codeAt t 2, degreesAt t 2), (codeAt t 3, degreesAt t 3),
      (codeAt t 4, degreesAt t 4), (codeAt t 5, degreesAt t 5), (codeAt t 6, degreesAt t 6), (codeAt t 7, degreesAt t 7),
      (codeAt t 8, degreesAt t 8)] := by
  simp only [← tablePoint_eq]
  rfl

/-! ### Reads -/

/-- A READ is answered as its object says, and moves nothing else, if it leaves the port's latch alone. -/
theorem readGives_of {p : Port} {cls : Code} {idx : Index} {data : Word} {s : State} {r : Result} {d : Word}
    (h : takesFrames p s)
    (hr : r ≠ .clamped) (hm : readObject (s.setPort p ((s.port p).mark false)) p cls idx data = (r, d))
    (hl : cls = 2 → latchAfterRead (s.setPort p ((s.port p).mark false)) p (tallyPart idx.toNat) = (s.port p).latch) :
    readGives p cls idx data s r d := by
  obtain ⟨h1, h2⟩ := h
  have hne : frameOf 1 cls idx data ≠ allOnesFrame := frameOf_ne_allOnes _ _ _ _ (by decide)
  have hd : dealFrame p (frameOf 1 cls idx data) = dealRead p cls idx data := by
    funext s
    simp only [dealFrame, frameCmd_frameOf, frameClass_frameOf, frameIndex_frameOf, frameData_frameOf]
    rfl
  unfold readGives
  simp only [exec, execFrameWhileDesynced, receiveFrame, frameIn, h1, h2, if_true, hne, if_false, dealtFrame, loadAnswer, hd,
    dealRead, hm]
  have ha : answerFor (frameOf 1 cls idx data) r d = answerOf 1 r idx d (if r = .ok then .taken else .refused) := by
    simp only [answerFor, answerOf, frameCmd_frameOf, frameIndex_frameOf, frameClass_frameOf, ackOf, queues]
    cases r <;> simp_all [Result.takes]
  rw [ha]
  congr 1
  unfold afterRead
  split
  · rename_i h; have := hl h; rw [this]; cases p <;> rfl
  · cases p <;> rfl

/-! ### The scan -/

/-- The slot that `newestWith` names is the one that the scan finds. -/
theorem latestSlot_eq_some (f : Slot → Bool) (j : Vector Slot 16) (i : Fin 16)
    (h : newestWith (fun sl => f sl = true) j i) : latestSlot f j = some i := by
  obtain ⟨h1, h2⟩ := h
  unfold latestSlot
  have hi : (f j[i] && (List.finRange 16).all fun k => k == i || !f j[k] || later j[k].seqNo j[i].seqNo) = true := by
    simp only [Bool.and_eq_true, List.all_eq_true]
    refine ⟨h1, fun k _ => ?_⟩
    by_cases hk : k = i
    · simp [hk]
    · cases hf : f j[k]
      · simp
      · have h3 := h2 k hk hf
        simp only [later, h3.1, h3.2, decide_true, Bool.and_self, Bool.or_true]
  have hu : ∀ k : Fin 16,
      (f j[k] && (List.finRange 16).all fun k' => k' == k || !f j[k'] || later j[k'].seqNo j[k].seqNo) = true → k = i := by
    intro k hk
    by_contra hne
    simp only [Bool.and_eq_true, List.all_eq_true] at hk
    have h3 := hk.2 i (List.mem_finRange i)
    have h4 := h2 k hne hk.1
    simp only [h1, Bool.not_true, Bool.or_false, Bool.or_eq_true, beq_iff_eq, later, Bool.and_eq_true, decide_eq_true_eq] at h3
    rcases h3 with h3 | h3
    · exact hne h3.symm
    · simp only [BitVec.toNat_sub] at h3 h4
      have := j[i].seqNo.isLt; have := j[k].seqNo.isLt
      omega
  cases hh : List.find? (fun i => f j[i] && (List.finRange 16).all fun k => k == i || !f j[k] || later j[k].seqNo j[i].seqNo)
      (List.finRange 16) with
  | none =>
    have := List.find?_eq_none.mp hh i (List.mem_finRange i)
    exact absurd hi this
  | some k =>
    have := List.find?_some hh
    rw [hu k this]

/-- The scan finds nothing where no slot has `f`. -/
theorem latestSlot_eq_none (f : Slot → Bool) (j : Vector Slot 16) (h : ∀ i : Fin 16, ¬ f j[i] = true) : latestSlot f j = none := by
  unfold latestSlot
  rw [List.find?_eq_none]
  intro i _ hh
  simp only [Bool.and_eq_true] at hh
  exact h i hh.1

end Sys2Proof.Machine
end

