-- ==== Sys2Proof/Laws/PerInstr.lean ====
section
/-! SUPPORT. Per command: a well-formed frame command other than the all-ones frame, and other than a whole word given as
such, never spells the all-ones frame, so that it never resynchronises a port (R174, R175). -/

set_option Elab.async false

namespace Sys2Proof.Laws.NotAllOnes

open Sys2Proof.Machine

/-- The command carries its word as given: an all-ones frame, or a word completed on a port. -/
def wholeWord : Instr → Bool
  | .allOnesFrameSynced _ => true
  | .frameWhileDesynced _ _ => true
  | _ => false

/-- A well-formed frame command with fields of its own does not spell the all-ones frame. -/
def Statement (i : Instr) : Prop := i.wf = true → wholeWord i = false → ∀ p w, i.frame = some (p, w) → w ≠ allOnesFrame

/-- The frame of a command whose code is not 15. -/
theorem of_code {p q : Port} {cmd cls : Code} {idx : Index} {data : Word} {w : Frame} (hc : cmd ≠ 15)
    (h : some (q, frameOf cmd cls idx data) = some (p, w)) : w ≠ allOnesFrame := by
  cases h; exact frameOf_ne_allOnes cmd cls idx data hc


theorem nop (p : Port) (cls : Code) (idx : Index) (data : Word) : Statement (.nop p cls idx data) :=
  fun _ _ _ _ e => of_code (by decide) e

theorem readTallyLow (p : Port) (tally : Fin 6) (data : Word) : Statement (.readTallyLow p tally data) :=
  fun _ _ _ _ e => of_code (by decide) e

theorem readTallyHigh (p : Port) (tally : Fin 6) (data : Word) : Statement (.readTallyHigh p tally data) :=
  fun _ _ _ _ e => of_code (by decide) e

theorem writeProgramme (p : Port) (data : Word) : Statement (.writeProgramme p data) :=
  fun _ _ _ _ e => of_code (by decide) e

theorem writeOptions (p : Port) (data : Word) : Statement (.writeOptions p data) := fun _ _ _ _ e => of_code (by decide) e

theorem writeRunRequest (p : Port) (data : Word) : Statement (.writeRunRequest p data) :=
  fun _ _ _ _ e => of_code (by decide) e

theorem cancel (p : Port) : Statement (.cancel p) := fun _ _ _ _ e => of_code (by decide) e

theorem writePhase (p : Port) (data : Word) : Statement (.writePhase p data) := fun _ _ _ _ e => of_code (by decide) e

theorem writeDeficit (p : Port) (data : Word) : Statement (.writeDeficit p data) := fun _ _ _ _ e => of_code (by decide) e

theorem writeTallyValue (p : Port) (tally : Fin 6) (high : Bool) (data : Word) : Statement (.writeTallyValue p tally high data) :=
  fun _ _ _ _ e => of_code (by decide) e

theorem clearOverflowFlag (p : Port) (tally : Fin 6) (data : Word) : Statement (.clearOverflowFlag p tally data) :=
  fun _ _ _ _ e => of_code (by decide) e

theorem writeTallyCtl (p : Port) (idx : Index) (data : Word) : Statement (.writeTallyCtl p idx data) :=
  fun _ _ _ _ e => of_code (by decide) e

theorem writeProfile (p : Port) (idx : Index) (data : Word) : Statement (.writeProfile p idx data) :=
  fun _ _ _ _ e => of_code (by decide) e

theorem writeTempTable (p : Port) (idx : Index) (data : Word) : Statement (.writeTempTable p idx data) :=
  fun _ _ _ _ e => of_code (by decide) e

theorem writeConfig (p : Port) (idx : Index) (data : Word) : Statement (.writeConfig p idx data) :=
  fun _ _ _ _ e => of_code (by decide) e

theorem writeAlertLevel (p : Port) (idx : Index) (data : Word) : Statement (.writeAlertLevel p idx data) :=
  fun _ _ _ _ e => of_code (by decide) e

theorem writeReadOnlyObject (p : Port) (cls : Code) (idx : Index) (data : Word) : Statement (.writeReadOnlyObject p cls idx data) :=
  fun _ _ _ _ e => of_code (by decide) e

theorem undefinedCommand (p : Port) (code : Code) (cls : Code) (idx : Index) (data : Word) : Statement (.undefinedCommand p code cls idx data) :=
  by
  intro h _ q w e
  cases e
  intro hw
  obtain ⟨rfl, rfl, rfl, rfl⟩ := frameOf_eq_allOnes _ _ _ _ hw
  simp [Instr.wf] at h

theorem checkpoint (p : Port) (cls : Code) (idx : Index) (data : Word) : Statement (.checkpoint p cls idx data) :=
  fun _ _ _ _ e => of_code (by decide) e

theorem takeAlert (p : Port) (cls : Code) (idx : Index) (data : Word) : Statement (.takeAlert p cls idx data) :=
  fun _ _ _ _ e => of_code (by decide) e

theorem setMask (p : Port) (cls : Code) (idx : Index) (data : Word) : Statement (.setMask p cls idx data) :=
  fun _ _ _ _ e => of_code (by decide) e

theorem confirm (p : Port) (cls : Code) (idx : Index) (data : Word) : Statement (.confirm p cls idx data) :=
  fun _ _ _ _ e => of_code (by decide) e

theorem accept (p : Port) (cls : Code) (idx : Index) (data : Word) : Statement (.accept p cls idx data) :=
  fun _ _ _ _ e => of_code (by decide) e

theorem decline (p : Port) (cls : Code) (idx : Index) (data : Word) : Statement (.decline p cls idx data) :=
  fun _ _ _ _ e => of_code (by decide) e

theorem freeze (p : Port) (cls : Code) (idx : Index) (data : Word) : Statement (.freeze p cls idx data) :=
  fun _ _ _ _ e => of_code (by decide) e

theorem release (p : Port) (cls : Code) (idx : Index) (data : Word) : Statement (.release p cls idx data) :=
  fun _ _ _ _ e => of_code (by decide) e

theorem monitor (p : Port) (cls : Code) (idx : Index) (data : Word) : Statement (.monitor p cls idx data) :=
  fun _ _ _ _ e => of_code (by decide) e

theorem tumbleAck (p : Port) (cls : Code) (idx : Index) (data : Word) : Statement (.tumbleAck p cls idx data) :=
  fun _ _ _ _ e => of_code (by decide) e

theorem allOnesFrameSynced (p : Port) : Statement (.allOnesFrameSynced p) := fun _ h => by simp [wholeWord] at h

theorem frameWhileDesynced (p : Port) (w : Frame) : Statement (.frameWhileDesynced p w) :=
  fun _ h => by simp [wholeWord] at h

theorem frameGap (p : Port) (bits : Nat) : Statement (.frameGap p bits) := fun _ _ _ _ e => by simp [Instr.frame] at e

theorem zeroCrossPulse (after : Nat) : Statement (.zeroCrossPulse after) := fun _ _ _ _ e => by simp [Instr.frame] at e

theorem lossDeclaration : Statement .lossDeclaration := fun _ _ _ _ e => by simp [Instr.frame] at e

theorem qualificationWithdrawn : Statement .qualificationWithdrawn := fun _ _ _ _ e => by simp [Instr.frame] at e

theorem lastGaspWindowExpiry : Statement .lastGaspWindowExpiry := fun _ _ _ _ e => by simp [Instr.frame] at e

theorem rstnAssertion (cut : CutStep) : Statement (.rstnAssertion cut) := fun _ _ _ _ e => by simp [Instr.frame] at e

theorem rstnRelease (vbkMv : Nat) : Statement (.rstnRelease vbkMv) := fun _ _ _ _ e => by simp [Instr.frame] at e

theorem coldStart (vbkMv : Nat) : Statement (.coldStart vbkMv) := fun _ _ _ _ e => by simp [Instr.frame] at e

theorem backupOnlyStart : Statement .backupOnlyStart := fun _ _ _ _ e => by simp [Instr.frame] at e

theorem warmReturn (vbkMv : Nat) : Statement (.warmReturn vbkMv) := fun _ _ _ _ e => by simp [Instr.frame] at e

theorem vddCollapse (cut : CutStep) : Statement (.vddCollapse cut) := fun _ _ _ _ e => by simp [Instr.frame] at e

theorem vbkLoss : Statement .vbkLoss := fun _ _ _ _ e => by simp [Instr.frame] at e

theorem doorFirstAdoption (isOpen : Bool) : Statement (.doorFirstAdoption isOpen) :=
  fun _ _ _ _ e => by simp [Instr.frame] at e

theorem doorChange (isOpen : Bool) : Statement (.doorChange isOpen) := fun _ _ _ _ e => by simp [Instr.frame] at e

theorem quadFirstAdoption (q : Quad) : Statement (.quadFirstAdoption q) := fun _ _ _ _ e => by simp [Instr.frame] at e

theorem quadStep (q : Quad) : Statement (.quadStep q) := fun _ _ _ _ e => by simp [Instr.frame] at e

theorem quadIllegalJump (q : Quad) : Statement (.quadIllegalJump q) := fun _ _ _ _ e => by simp [Instr.frame] at e

theorem drumBurstClose : Statement .drumBurstClose := fun _ _ _ _ e => by simp [Instr.frame] at e

theorem htsSample (high : Bool) : Statement (.htsSample high) := fun _ _ _ _ e => by simp [Instr.frame] at e

theorem mismatchTimerExpiry : Statement .mismatchTimerExpiry := fun _ _ _ _ e => by simp [Instr.frame] at e

theorem mainSecond (vbkMv : Nat) (tempFirst : Bool) : Statement (.mainSecond vbkMv tempFirst) :=
  fun _ _ _ _ e => by simp [Instr.frame] at e

theorem thermistorConversion (code : BitVec 10) : Statement (.thermistorConversion code) :=
  fun _ _ _ _ e => by simp [Instr.frame] at e

theorem phaseClockSecond : Statement .phaseClockSecond := fun _ _ _ _ e => by simp [Instr.frame] at e

theorem restExpiry : Statement .restExpiry := fun _ _ _ _ e => by simp [Instr.frame] at e

theorem tumbleAckTimeout : Statement .tumbleAckTimeout := fun _ _ _ _ e => by simp [Instr.frame] at e

theorem tumbleComplete : Statement .tumbleComplete := fun _ _ _ _ e => by simp [Instr.frame] at e

theorem recoveryEnd : Statement .recoveryEnd := fun _ _ _ _ e => by simp [Instr.frame] at e

theorem entryCommit : Statement .entryCommit := fun _ _ _ _ e => by simp [Instr.frame] at e

theorem settingsWriteComplete (readBack : Word) : Statement (.settingsWriteComplete readBack) :=
  fun _ _ _ _ e => by simp [Instr.frame] at e

theorem scanComplete : Statement .scanComplete := fun _ _ _ _ e => by simp [Instr.frame] at e

theorem sample (doorOpen : Bool) (q : Quad) (code : BitVec 10) (vbkMv : Nat) : Statement (.sample doorOpen q code vbkMv) :=
  fun _ _ _ _ e => by simp [Instr.frame] at e

theorem flushComplete : Statement .flushComplete := fun _ _ _ _ e => by simp [Instr.frame] at e

theorem outageTimerSecond : Statement .outageTimerSecond := fun _ _ _ _ e => by simp [Instr.frame] at e

end Sys2Proof.Laws.NotAllOnes
end

