-- ==== Sys2Proof/Tests/Slice0.lean ====
section
/-! SUPPORT. Tests: the refused terms of `Instr.wf`; worked values of the spec, each with its table or rule; and for every
obligation with hypotheses a state and operands that meet them, clause by clause, at the boundary values of the clauses. -/

set_option Elab.async false

namespace Sys2Proof.Tests

open Sys2Proof.Machine

/-! ### Terms that the well-formedness check refuses -/

/-- Data 3 to the run request is CANCEL (R9). -/
theorem test_wf_run_request : (Instr.writeRunRequest .panel 3).wf = false ∧ (Instr.writeRunRequest .panel 2).wf = true := by
  decide

/-- A tally's control has six fields, and there are six tallies (R33). -/
theorem test_wf_tally_ctl : (Instr.writeTallyCtl .panel 6 0).wf = false ∧ (Instr.writeTallyCtl .panel 48 0).wf = false
    ∧ (Instr.writeTallyCtl .panel 45 0).wf = true := by decide

/-- A profile has 18 fields (Table 7-3). -/
theorem test_wf_profile : (Instr.writeProfile .panel 18 0).wf = false ∧ (Instr.writeProfile .panel 17 0).wf = true := by decide

/-- The temperature table has 18 words (Table 4-3). -/
theorem test_wf_temp_table : (Instr.writeTempTable .panel 18 0).wf = false ∧ (Instr.writeTempTable .panel 17 0).wf = true := by
  decide

/-- There are eight configuration items (Table 12-1). -/
theorem test_wf_config : (Instr.writeConfig .panel 8 0).wf = false ∧ (Instr.writeConfig .panel 7 0).wf = true := by decide

/-- MAINS_LOSS has no level, and there are thirteen sources (R163, R169). -/
theorem test_wf_alert_level : (Instr.writeAlertLevel .panel 0 0).wf = false ∧ (Instr.writeAlertLevel .panel 13 0).wf = false
    ∧ (Instr.writeAlertLevel .panel 12 0).wf = true := by decide

/-- The programme may be written (R6), the door may not (R3). -/
theorem test_wf_read_only : (Instr.writeReadOnlyObject .panel 0 0 0).wf = false
    ∧ (Instr.writeReadOnlyObject .panel 0 7 0).wf = true := by decide

/-- Command 12 is TUMBLE_ACK (Table 11-3); the all-ones frame is no undefined command (R178). -/
theorem test_wf_undefined_command : (Instr.undefinedCommand .panel 12 0 0 0).wf = false
    ∧ (Instr.undefinedCommand .panel 15 15 255 65535).wf = false ∧ (Instr.undefinedCommand .panel 13 0 0 0).wf = true := by
  decide

/-- A gap lies inside a frame (R173). -/
theorem test_wf_frame_gap : (Instr.frameGap .panel 0).wf = false ∧ (Instr.frameGap .panel 32).wf = false
    ∧ (Instr.frameGap .panel 31).wf = true := by decide

/-! ### States for the tests -/

/-- RUN with a built record, phase IDLE, no chain, both ports SYNCED, door CLOSED, drum at Q0, 40 °C. -/
def live : State := { State.reset with
  panelPort := { PortState.start with synced := true }
  drivePort := { PortState.start with synced := true }
  built := true
  freeze := ⟨false, false, false, false, false⟩
  mains := { Mains.start with mode := .run, accepted := true, runCount := 7 }
  outage := Outage.start
  sensing := { Sensing.start with door := some .closed, quad := some .q0, lastTemp := some 40, secondMs := 3 } }

/-- `live` in a phase, with run request RUN. -/
def inPhase (ph : Phase) : State := { live with lpr := { live.lpr with phase := ph, runReq := .run } }

/-- `live` in ANTICREASE with the scheduler in a state, a window end of 5400 s, P 120 s and U_eff 10 s. -/
def tumble (st : SchedState) : State := { inPhase .anticrease with
  sched := { Sched.start with state := st, windowEnd := 5400, period := 120, tumbleLen := 10 } }

/-- `live` in a hand-over state with a chain open and RETURN in the freeze set. -/
def returned (ho : HoState) : State := { live with
  handover := { HandOver.start with state := ho }
  outage := { Outage.start with chainOpen := true }
  freeze := ⟨false, false, false, false, true⟩ }

/-- `live` in FADING with a last gasp in a state. -/
def fading (g : LastGasp) : State := { returned .closed with
  mains := { live.mains with mode := .fading, lastGasp := g, window := some 100 }
  freeze := ⟨false, false, false, true, false⟩ }

/-- `live` with the engine at work. -/
def working (w : Work) : State := { live with engine := { Engine.start with work := w, writePos := some 0 } }

/-- `live` with both ports DESYNCED. -/
def desynced : State := { live with panelPort := PortState.start, drivePort := PortState.start }

/-- `live` in a watch with the low level at 2600 mV and the floor at 2500 mV. -/
def watching : State := { live with
  vdd := false, seq := { Sequencer.start with state := .watch, base := 8, low := 2600, floor := 2500, pace := 3 }
  refs := ⟨some .closed, some .q0, some 40⟩ }

/-- What a step answers, read as a state. -/
def after (c : Instr) (s : State) : State :=
  match exec c s with
  | .next t => t
  | .fault _ | .refused _ => s

/-- The result and the data of a port's answer. -/
def answer (p : Port) (s : State) : Option (Result × Nat) := (s.port p).resp.map fun a => (a.result, a.data.toNat)

/-! ### Worked values of the spec -/

/-- Code 600 reads 40 °C (section 4.7.1). -/
theorem test_temperature_code_600 : temperatureOf factoryTemp 600 = 40 := by decide

/-- An entry with programme 3. -/
def entryOf (ph : Phase) (d clk : Nat) (nd : Dir) : Entry :=
  ⟨5, { Snapshot.blank with
    phase := ph, deficit := d, phaseClock := clk, runReq := .run, nextDir := nd, programme := 3 }⟩

/-- The inputs of a KNOWN outage with a sound thermistor and the factory profile. -/
def inputs (e : Entry) (tOut : Nat) (tRet : Int) : EvalIn where
  entry := some e
  torn := 0
  tOut := tOut
  quality := .known
  doorOpened := false
  quarters := 0
  uncertain := false
  resetSeen := false
  fault := false
  tRet := some tRet
  prof := factorySettings.prof 3
  confirmed := false
  openClass := .short

/-- Table 7-9: the HEAT entry. -/
theorem test_evaluation_heat : ((inputs (entryOf .heat 240 0 .cw) 4200 41).plan 1).verdict = .auto
    ∧ ((inputs (entryOf .heat 240 0 .cw) 4200 41).plan 1).dPrime = 249
    ∧ ((inputs (entryOf .heat 240 0 .cw) 4200 41).plan 1).rawHeat = 2241
    ∧ ((inputs (entryOf .heat 240 0 .cw) 4200 41).plan 1).credit = 96
    ∧ ((inputs (entryOf .heat 240 0 .cw) 4200 41).plan 1).heatSec = 2145 := by decide

/-- Table 7-10: the same with the door opened, at 4500 s and 39 °C. -/
theorem test_evaluation_door_opened :
    ({ inputs (entryOf .heat 240 0 .cw) 4500 39 with doorOpened := true }.plan 2).verdict = .hold
    ∧ ({ inputs (entryOf .heat 240 0 .cw) 4500 39 with doorOpened := true }.plan 2).reasons = rDoorOpened
    ∧ ({ inputs (entryOf .heat 240 0 .cw) 4500 39 with doorOpened := true }.plan 2).heatSec = 2301 := by decide

/-- Table 7-11: the ANTICREASE entry. -/
theorem test_evaluation_anticrease : ((inputs (entryOf .anticrease 0 1530 .ccw) 2700 31).plan 1).elapsed = 4230
    ∧ ((inputs (entryOf .anticrease 0 1530 .ccw) 2700 31).plan 1).windowRem = 1170
    ∧ ((inputs (entryOf .anticrease 0 1530 .ccw) 2700 31).plan 1).recovery = 60
    ∧ ((inputs (entryOf .anticrease 0 1530 .ccw) 2700 31).plan 1).nextDir = .ccw := by decide

/-- Table 7-12: T_out 3865 ends with WINDOW_EXPIRED and 5 s of window left. -/
theorem test_evaluation_window : ((inputs (entryOf .anticrease 0 1530 .ccw) 3865 31).plan 1).verdict = .ended
    ∧ ((inputs (entryOf .anticrease 0 1530 .ccw) 3865 31).plan 1).reasons = rWindowExpired
    ∧ ((inputs (entryOf .anticrease 0 1530 .ccw) 3865 31).plan 1).windowRem = 5 := by decide

/-- Table 11-9: the answer to the pair of all-ones frames carries the ignored count, with the resynchronisation pulse. -/
theorem test_resync : ((after (.frameWhileDesynced .panel allOnesFrame)
      (after (.frameWhileDesynced .panel allOnesFrame) (after (.nop .panel 0 0 0) desynced))).panelPort.resp).map
        (fun a => (a.echo.toNat, a.result, a.idx.toNat, a.data.toNat, a.ack.clocks)) = some (15, .ok, 255, 1, 6) := by decide

/-- Table 11-9: a READ of LIVE while unbuilt is BUSY, a pulse of 3. -/
theorem test_read_unbuilt : ((after (.frameWhileDesynced .panel (frameOf 1 0 3 0)) { live with built := false }).panelPort.resp).map
    (fun a => (a.result, a.idx.toNat, a.data.toNat, a.ack.clocks)) = some (.busy, 3, 0, 3) := by decide

/-- Section 11.9: a gap raises LINK_FAULT, level 6 under mask 7, on its own port. -/
theorem test_gap : (after (.frameGap .panel 12) live).panelAlerts.line = true
    ∧ (after (.frameGap .panel 12) live).panelPort.synced = false
    ∧ (after (.frameGap .panel 12) live).driveAlerts.line = false := by decide

/-- Programme 16 is BAD_VALUE, the answer carries the programme held (R6). -/
theorem test_programme : answer .panel (after (.writeProgramme .panel 16) live) = some (.badValue, 0)
    ∧ answer .panel (after (.writeProgramme .panel 15) live) = some (.ok, 15) := by decide

/-- A deficit above 1000 is held there and CLAMPED (R13). -/
theorem test_deficit : answer .drive (after (.writeDeficit .drive 1001) live) = some (.clamped, 1000)
    ∧ (after (.writeDeficit .drive 1001) live).lpr.deficit = 1000 := by decide

/-- IDLE to HEAT needs RUN (Table 1-4). -/
theorem test_phase : answer .drive (after (.writePhase .drive 1) live) = some (.badValue, 0)
    ∧ answer .drive (after (.writePhase .drive 1) (inPhase .idle)) = some (.ok, 1) := by decide

/-- COOL to ANTICREASE: RESTING for 120 s, W 90 min (R149, section 7.12). -/
theorem test_fresh_start : (after (.writePhase .drive 3) (inPhase .cool)).sched.remaining = 120000
    ∧ (after (.writePhase .drive 3) (inPhase .cool)).sched.windowEnd = 5400 := by decide

/-- CANCEL writes DONE and STOPPED (R9). -/
theorem test_cancel : (after (.cancel .panel) (tumble .due)).lpr.phase = .done
    ∧ (after (.cancel .panel) (tumble .due)).sched.endReason = .cancel := by decide

/-- The latched high byte of R29 comes from the moment of the low read. -/
theorem test_latch : answer .panel (after (.readTallyHigh .panel 1 0)
    { live with panelPort := { live.panelPort with latch := some (1, 5) } }) = some (.ok, 5) := by decide

/-- 16777215 and an occurrence wrap to 0 with the flag set (R23). -/
theorem test_wrap : ((Tally.mk 16777215 false false factorySettings.controls[1]).deliver 1 .drumTurns 1).1.value = 0
    ∧ ((Tally.mk 16777215 false false factorySettings.controls[1]).deliver 1 .drumTurns 1).1.overflow = true := by decide

/-- FREEZE from the Drive Port adds 4 to the set, RELEASE takes it away (R25). -/
theorem test_freeze : answer .drive (after (.freeze .drive 2 0 0) live) = some (.ok, 4)
    ∧ answer .drive (after (.release .drive 2 0 0) (after (.freeze .drive 2 0 0) live)) = some (.ok, 0) := by decide

/-- Section 12.5: h_cap 3600 is queued, the answer carries the stored 5400; the port's next write is BUSY. -/
theorem test_settings_write : answer .panel (after (.writeProfile .panel 8 3600) live) = some (.ok, 5400)
    ∧ answer .panel (after (.writeProfile .panel 9 500) (after (.writeProfile .panel 8 3600) live)) = some (.busy, 600) := by
  decide

/-- TAKE_ALERT of nothing presentable answers 15 (R167). -/
theorem test_take_nothing : answer .drive (after (.takeAlert .drive 8 0 0) live) = some (.ok, 15) := by decide

/-- CONFIRM from the Drive Port is NOT_OWNER with the hand-over's code (R134). -/
theorem test_confirm_owner : answer .drive (after (.confirm .drive 6 0 0) (returned .offeredHold)) = some (.notOwner, 3) := by
  decide

/-- TUMBLE_ACK in DUE answers U_eff (R153). -/
theorem test_tumble_ack : answer .drive (after (.tumbleAck .drive 7 0 0) (tumble .due)) = some (.ok, 10)
    ∧ (after (.tumbleAck .drive 7 0 0) (tumble .due)).sched.nextDir = .ccw := by decide

/-- Q0 to Q1 is CW, Q0 to Q3 is CCW, Q0 to Q2 is a jump (Table 4-1). -/
theorem test_quad : quadMove .q0 .q1 = .step .cw ∧ quadMove .q0 .q3 = .step .ccw ∧ quadMove .q0 .q2 = .opposite := by decide

/-- The eighth pulse in a row qualifies mains; a chain is open after reset, so an evaluation starts (R75, R84). -/
theorem test_qualify : (after (.zeroCrossPulse 10000)
    { State.reset with mains := { Mains.start with runCount := 7, accepted := true } }).handover.state = .evaluating := by decide

/-- A loss in RUN without a chain: FADING with a last gasp due, LOSS in the freeze set (R78). -/
theorem test_loss : (after .lossDeclaration live).mains.lastGasp = .due
    ∧ (after .lossDeclaration live).freeze.code = 8 := by decide

/-- The first interval of a watch entered at pace 3 is an eighth of the base interval (R91, R92). -/
theorem test_watch : (after .lossDeclaration live).seq.pace = 3
    ∧ (after .lossDeclaration live).seq.toSample * 8 = (after .lossDeclaration live).seq.base * 1000 := by decide

/-- A write cut in step 1 leaves its slot CORRUPT (R43, Table 3-3). -/
theorem test_cut : (after (.rstnAssertion .header)
    (working (.entry 3 9 .drive Snapshot.blank))).journal[3].state = .corrupt := by decide

/-- The PHASE request of an apply carries the state after the plan start (log 34): missed 0, and the direction turned by RECOVERY. -/
theorem test_apply_snapshot : (apply ((inputs (entryOf .anticrease 0 1530 .ccw) 2700 31).plan 1)
      { returned .offeredAuto with sched := { Sched.start with missed := 2 } }).engine.queue.map
        (fun r => match r with
          | .journal o b => (o == .phase, b.phase, b.missed, b.nextDir)
          | .settings .. => (false, .idle, 0, .cw)) = [(true, .anticrease, 0, .cw)] := by decide

/-- Without an entry the class is what Table 7-4 gives under every profile of Table 7-3's ranges (log 11). -/
theorem test_class_without_profile : classWithoutProfile 0 .long = .short ∧ classWithoutProfile 600 .short = .short
    ∧ classWithoutProfile 601 .short = .medium ∧ classWithoutProfile 43201 .short = .long := by decide

/-! ### States and operands that meet the hypotheses of the obligations -/

theorem test_witness_StepRunsTheFrontCommand :
    ({ live with pending := [.entryCommit, .restExpiry] } : State).pending = .entryCommit :: [.restExpiry] := rfl

theorem test_witness_EmptyQueueMovesOnlyTimers : live.pending = [] ∧ live.mainRunning = true ∧ live.schedRuns = false
    ∧ live.clockCounts = false ∧ live.timerCounts = false ∧ live.seq.state ≠ .watch
    ∧ ({ live with rstn := true } : State).mainRunning = false ∧ (tumble .resting).pending = []
    ∧ (tumble .resting).clockCounts = true ∧ (tumble .resting).schedRuns = true
    ∧ (returned .closed).timerCounts = true ∧ watching.pending = [] ∧ watching.seq.state = .watch := by decide

theorem test_witness_CommandsLeaveTheQueueAlone : ∃ t, exec .restExpiry (tumble .resting) = .next t := ⟨_, rfl⟩

theorem test_witness_FrameCommandsActAsTheirWords :
    (Instr.writeProgramme .panel 5).frame = some (.panel, frameOf 2 0 0 5) := rfl

theorem test_witness_FramesChangeNothingElse : takesFrames .panel live ∧ frameOf 13 0 7 9 ≠ allOnesFrame
    ∧ (∃ t a, exec (.frameWhileDesynced .panel (frameOf 13 0 7 9)) live = .next t ∧ (t.port .panel).resp = some a
      ∧ a.result.takes = false)
    ∧ takesFrames .drive live ∧ (12 : Code) ≠ 2 ∧ Port.drive ≠ Port.panel
    ∧ ∃ t, exec (.frameWhileDesynced .panel allOnesFrame) live = .next t :=
  ⟨⟨rfl, rfl⟩, by decide, ⟨_, _, rfl, rfl, rfl⟩, ⟨rfl, rfl⟩, by decide, by decide, _, rfl⟩

theorem test_witness_StoppedMainDomainDoesNothing : ({ live with rstn := true } : State).mainRunning = false := by decide

theorem test_witness_RecordStaysInRange : recordInRange live ∧ ∃ t, step live = .next t := by
  refine ⟨⟨by decide, by decide, by decide, by decide, ⟨?_, trivial, ?_, ?_⟩, ?_⟩, _, rfl⟩
  · intro r h; cases h
  · unfold Snapshot.inRange; decide
  · intro k h; cases h
  · intro p h; cases h

theorem test_witness_TalliesStayIn24Bits : talliesIn24Bits live ∧ ∃ t, step live = .next t := by
  refine ⟨⟨by decide, ⟨?_, trivial, by decide, ?_⟩, ?_⟩, _, rfl⟩
  · intro r h; cases h
  · intro k h; cases h
  · intro h; cases h

theorem test_witness_QueueKeepsOneRequestPerSource : oneRequestPerSource live ∧ ∃ t, step live = .next t :=
  ⟨⟨fun o => by cases o <;> decide, fun p => by cases p <;> decide⟩, _, rfl⟩

theorem test_witness_PortsStaySound : portsSound live ∧ ∃ t, step live = .next t :=
  ⟨by unfold portsSound PortState.sound; decide, _, rfl⟩

theorem test_witness_AlertsStaySound : alertsSound live ∧ ∃ t, step live = .next t :=
  ⟨by unfold alertsSound Alerts.inRange; decide, _, rfl⟩

theorem test_witness_WatchStaysSound : watchSound live ∧ ∃ t, step live = .next t := by
  refine ⟨⟨by decide, by unfold Summary.inRange; decide, by unfold Summary.inRange; decide, by decide, by decide, by decide, ?_⟩,
    _, rfl⟩
  intro m h; cases h

theorem test_witness_SupplyStaysSound : supplySound live ∧ ∃ t, step live = .next t :=
  ⟨by unfold supplySound; decide, _, rfl⟩

theorem test_witness_NopAnswersTheMonitor : takesFrames .panel live ∧ (live.port .panel).monitor = none ∧ live.built = true
    ∧ (State.port { live with panelPort := { live.panelPort with monitor := some 5 }, built := false } .panel).monitor = some 5 := by
  unfold takesFrames; decide

theorem test_witness_FramesNoBlockTakesAreRefused : takesFrames .panel live ∧ takesFrames .panel { live with built := false }
    ∧ (13 : Code).toNat ∈ [1, 4, 5, 6, 7, 12, 13] ∧ (15 : Code).toNat ∈ [14, 15] ∧ 8 ≤ (8 : Index).toNat ∧ live.built = true
    ∧ live.sensing.door = some .closed ∧ (25 ≤ (25 : Index).toNat ∨ ((25 : Index).toNat < 24 ∧ (25 : Index).toNat % 4 = 3))
    ∧ (48 ≤ (6 : Index).toNat ∨ 6 ≤ (6 : Index).toNat % 8) ∧ (16 ≤ (20 : Index).toNat ∧ (20 : Index).toNat ≤ 20)
    ∧ 21 ≤ (21 : Index).toNat ∧ 18 ≤ (18 : Index).toNat
    ∧ ({ live with sensing := { live.sensing with door := none } } : State).sensing.door = none
    ∧ (6 : Code) ≠ 1 ∧ (6 : Code) ≠ 8 ∧ (5 : Code) ≠ 6 ∧ (6 : Code) ≠ 7 ∧ 13 ≤ (15 : Code).toNat ∧ ¬((15 : Code) = 15 ∧ (15 : Code) = 15 ∧ (255 : Index) = 255 ∧ (0 : Word) = 65535) := by
  unfold takesFrames; decide

theorem test_witness_AllOnesFramesOnASyncedPort : takesFrames .panel live ∧ (live.port .panel).allOnes = false
    ∧ takesFrames .drive { live with drivePort := { live.drivePort with allOnes := true } }
    ∧ (State.port { live with drivePort := { live.drivePort with allOnes := true } } .drive).allOnes = true
    ∧ frameOf 0 0 0 0 ≠ allOnesFrame ∧ (∃ t, exec (.frameWhileDesynced .panel (frameOf 0 0 0 0)) live = .next t)
    ∧ frameOf 15 15 255 0 ≠ allOnesFrame ∧ frameCmd (frameOf 15 15 255 0) = 15 :=
  ⟨⟨rfl, rfl⟩, rfl, ⟨rfl, rfl⟩, rfl, by decide, ⟨_, rfl⟩, by decide, by decide⟩

theorem test_witness_FramesWhileDesynced : desynced.mainRunning = true ∧ (desynced.port .panel).synced = false
    ∧ (desynced.port .panel).resp = none ∧ (desynced.port .panel).allOnes = false
    ∧ (State.port { desynced with panelPort := { desynced.panelPort with allOnes := true } } .panel).allOnes = true
    ∧ frameOf 0 0 0 0 ≠ allOnesFrame := by decide

theorem test_witness_GapsDesynchronise : live.mainRunning = true ∧ 1 ≤ 1 ∧ 31 ≤ 31 ∧ (live.port .drive).synced = true
    ∧ (desynced.port .drive).synced = false := by decide

theorem test_witness_ReadsOfWhatStands : takesFrames .panel live ∧ takesFrames .drive live ∧ live.built = true
    ∧ takesFrames .panel { live with built := false } ∧ (0 : Index).toNat = (0 : Fin 7).val ∧ (6 : Index).toNat = (6 : Fin 7).val
    ∧ 7 < (8 : Index).toNat ∧ (20 : Index).toNat = (20 : Fin 21).val ∧ 21 ≤ (21 : Index).toNat
    ∧ (10 : Index).toNat = (10 : Fin 11).val ∧ 11 ≤ (11 : Index).toNat ∧ (12 : Index).toNat = (12 : Fin 13).val
    ∧ ¬(Port.panel = .panel ∧ (12 : Fin 13) = 7) ∧ (20 : Index).toNat = 16 + (4 : Fin 5).val
    ∧ (13 ≤ (15 : Index).toNat ∧ (15 : Index).toNat ≤ 15) ∧ (17 : Index).toNat = (17 : Fin 18).val ∧ (15 : Word).toNat = (15 : Fin 16).val
    ∧ (17 : Index).toNat < 18 ∧ 16 ≤ (16 : Word).toNat ∧ 18 ≤ (18 : Index).toNat ∧ (7 : Index).toNat = (7 : Fin 8).val
    ∧ (45 : Index).toNat = (5 : Fin 6).val * 8 + (5 : Fin 6).val ∧ (48 ≤ (48 : Index).toNat ∨ 6 ≤ (48 : Index).toNat % 8)
    ∧ (22 : Index).toNat = (5 : Fin 6).val * 4 + 2 ∧ 25 ≤ (25 : Index).toNat ∧ ((23 : Index).toNat < 24 ∧ (23 : Index).toNat % 4 = 3) := by
  unfold takesFrames; decide

/-- A COMPLETE slot of number 7 with an entry in HEAT. -/
def completeSlot : Slot :=
  ⟨false, true, 7, ~~~7, .drive, { Snapshot.blank with phase := .heat, runReq := .run, deficit := 240 }, some 7⟩

/-- An OPEN slot of number 8. -/
def openSlot : Slot := { completeSlot with seqNo := 8, check := ~~~8 }

/-- `live` with a journal of two entries and its write position after them, a log of two items and a plan. -/
def recorded : State := { live with
  engine := { Engine.start with writePos := some 6 }
  journal := (live.journal.set 4 completeSlot).set 5 openSlot
  outage := { Outage.start with log := [⟨.mainsReturn, 9, none⟩, ⟨.drumMove, 9, some 3⟩] }
  plan := some ((inputs (entryOf .heat 240 0 .cw) 4200 41).plan 1) }

theorem test_witness_ReadsOfWhatWasRecorded : takesFrames .panel recorded ∧ live.engine.writePos = none
    ∧ (working .scanning).engine.work ≠ .idle ∧ recorded.engine.writePos = some 6 ∧ recorded.engine.work = .idle
    ∧ (27 : Index).toNat % 16 = 11 ∧ 5 < (6 : Word).toNat ∧ (6 + 31 - (16 : Index).toNat / 16) % 16 = 4
    ∧ recorded.journal[(4 : Fin 16)].headed ∧ recorded.journal[(5 : Fin 16)].headed ∧ ¬recorded.journal[(6 : Fin 16)].headed
    ∧ (6 + 31 - (255 : Index).toNat / 16) % 16 = 6 ∧ (30 : Index).toNat % 16 = (13 : Fin 14).val + 1 ∧ (5 : Word).toNat = (5 : Fin 6).val
    ∧ recorded.outage.log[(6 : Index).toNat / 4]? = some ⟨.drumMove, 9, some 3⟩ ∧ (2 : Index).toNat % 4 = 2
    ∧ recorded.outage.log[(2 : Index).toNat / 4]? = some ⟨.mainsReturn, 9, none⟩
    ∧ (94 : Index).toNat < 96 ∧ (94 : Index).toNat % 4 ≠ 3 ∧ recorded.outage.log[(94 : Index).toNat / 4]? = none
    ∧ ((95 : Index).toNat < 96 ∧ (95 : Index).toNat % 4 = 3) ∧ 96 < (97 : Index).toNat
    ∧ (43 : Index).toNat = (11 : Fin 12).val + 32 ∧ (18 : Index).toNat = (6 : Fin 7).val + 12
    ∧ (19 ≤ (31 : Index).toNat ∧ (31 : Index).toNat ≤ 31) ∧ 44 ≤ (44 : Index).toNat ∧ 19 < (20 : Index).toNat
    ∧ (returned .evaluating).handover.state = .evaluating ∧ live.plan = none ∧ live.handover.state ≠ .evaluating
    ∧ recorded.plan = some ((inputs (entryOf .heat 240 0 .cw) 4200 41).plan 1) ∧ (19 : Index).toNat = (19 : Fin 20).val
    ∧ (11 : Index).toNat = (11 : Fin 12).val ∧ 12 ≤ (12 : Index).toNat := by unfold takesFrames Slot.headed; decide

theorem test_witness_LiveWritesAreChecked : takesFrames .panel live ∧ takesFrames .drive live ∧ live.built = true
    ∧ takesFrames .panel { live with built := false } ∧ (returned .offeredAuto).mayWrite .panel = false
    ∧ takesFrames .panel (returned .offeredAuto) ∧ (fading .requested).mayWrite .drive = false
    ∧ live.mayWrite .panel = true ∧ 4 ≤ (4 : Word).toNat ∧ live.mayWrite .drive = true ∧ 5 ≤ (5 : Word).toNat := by
  unfold takesFrames; decide

theorem test_witness_ProgrammeWrites : takesFrames .panel live ∧ live.built = true ∧ live.runClosed = true
    ∧ (15 : Word).toNat < 16 ∧ live.lpr.phase = .idle ∧ takesFrames .panel (inPhase .cool) ∧ (inPhase .cool).runClosed = true
    ∧ 16 ≤ (16 : Word).toNat := by unfold takesFrames; decide

theorem test_witness_OptionsAndDeficitWrites : takesFrames .panel live ∧ live.built = true ∧ live.runClosed = true
    ∧ (7 : Word).toNat ≤ 7 ∧ 8 ≤ (8 : Word).toNat ∧ takesFrames .drive (fading .due) ∧ (fading .due).mayWrite .drive = true
    ∧ (1000 : Word).toNat ≤ 1000 ∧ 1000 < (1001 : Word).toNat := by unfold takesFrames; decide

theorem test_witness_RunRequestAndCancelWrites : takesFrames .panel live ∧ live.built = true ∧ live.runClosed = true
    ∧ live.lpr.runReq = .stopped ∧ live.lpr.runReq ≠ .run ∧ takesFrames .panel (tumble .recovery)
    ∧ (tumble .recovery).runClosed = true ∧ (tumble .recovery).lpr.runReq ≠ .paused ∧ RunReq.paused ≠ .run
    ∧ (tumble .recovery).sched.state.tmb = true ∧ (inPhase .done).lpr.phase = .done ∧ live.lpr.phase ≠ .done := by
  unfold takesFrames; decide

theorem test_witness_PhaseWrites : takesFrames .drive (inPhase .done) ∧ (inPhase .done).mayWrite .drive = true
    ∧ driveMayWritePhase (inPhase .done).lpr.phase .heat (inPhase .done).lpr.runReq
    ∧ driveMayWritePhase live.lpr.phase .done live.lpr.runReq
    ∧ ¬driveMayWritePhase live.lpr.phase .heat live.lpr.runReq := by
  unfold takesFrames driveMayWritePhase; decide

theorem test_witness_FreshStartOfTheScheduler : takesFrames .drive (inPhase .cool) ∧ (inPhase .cool).built = true
    ∧ (inPhase .cool).mayWrite .drive = true ∧ (inPhase .cool).lpr.phase = .cool
    ∧ (inPhase .cool).lpr.options.noAnticrease = false
    ∧ 0 < ((inPhase .cool).settings.prof (inPhase .cool).lpr.programme).wSec (inPhase .cool).lpr.options
    ∧ (((inPhase .cool).settings.put (.profile 0 12) 0).prof 0).wSec Options.empty = 0 := by
  unfold takesFrames; decide

theorem test_witness_TallyReads : takesFrames .panel live ∧ live.built = true ∧ (live.port .panel).latch = none
    ∧ (State.port { live with panelPort := { live.panelPort with latch := some (5, 255) } } .panel).latch = some (5, 255)
    ∧ takesFrames .panel { live with built := false } := by unfold takesFrames; decide

theorem test_witness_TallyAndFreezeCommands : takesFrames .drive { live with built := false } ∧ takesFrames .drive (fading .none)
    ∧ (fading .none).built = true ∧ (fading .none).mayWrite .drive = false ∧ takesFrames .drive live ∧ live.built = true
    ∧ live.mayWrite .drive = true ∧ live.freeze.any = false ∧ controlUse 0 5 live.tallies[(0 : Fin 6)].ctl = 1
    ∧ ({ live with freeze := ⟨false, true, false, false, false⟩ } : State).freeze.any = true
    ∧ (0 : Word) = 0 ∧ (1 : Word) ≠ 0 ∧ takesFrames .panel live ∧ (2 : Code) = 2 ∧ (3 : Code) ≠ 2 ∧ (5 : Word).toNat < 6
    ∧ (6 : Word) = 6 ∧ 6 < (7 : Word).toNat := by unfold takesFrames; decide

/-- A state whose tally 1 counts DRUM_TURNS and wraps with notify at the next. -/
def wrapping : State := { live with
  tallies := live.tallies.set 1 ⟨16777215, false, false, #v[2, 0, 0, 0, 1, 1]⟩ }

theorem test_witness_OccurrencesAreCounted : live.freeze.any = false ∧ (returned .closed).freeze.any = true
    ∧ live.tallies[(1 : Fin 6)].source 1 = .drumTurns ∧ controlUse 1 5 live.tallies[(1 : Fin 6)].ctl = 1
    ∧ controlUse 1 1 live.tallies[(1 : Fin 6)].ctl = 0 ∧ controlUse 1 1 #v[2, 5, 0, 0, 0, 1] ≠ 0
    ∧ (∀ i : Fin 6, live.tallies[i].value + 1 ≤ 16777215) ∧ wrapping.tallies[(1 : Fin 6)].source 1 = .drumTurns
    ∧ controlUse 1 5 wrapping.tallies[(1 : Fin 6)].ctl = 1 ∧ controlUse 1 4 wrapping.tallies[(1 : Fin 6)].ctl = 1
    ∧ controlUse 1 1 wrapping.tallies[(1 : Fin 6)].ctl = 0 ∧ wrapping.tallies[(1 : Fin 6)].value + 1 > 16777215
    ∧ ¬ wrapping.tallies[(1 : Fin 6)].value + 0 > 16777215
    ∧ wrapping.settings.cfg 0 = 1 ∧ (wrapping.settings.put (.config 0) 0).cfg 0 = 0 := by decide

/-- `live` while a TEMP_TABLE write of the Drive Port waits. -/
def tablePending : State := { live with engine := { Engine.start with queue := [.settings .drive (.temp 2) 250] } }

theorem test_witness_SettingsWrites : takesFrames .panel live ∧ live.built = true ∧ (45 : Index).toNat = 5 * 8 + 5
    ∧ (17 : Index).toNat = 17 ∧ (7 : Index).toNat = 7 ∧ live.settingsOpen = true ∧ live.settingsPending .panel = false
    ∧ (inPhase .heat).settingsOpen = false
    ∧ (working (.settings .panel (.config 0) 1)).settingsPending .panel = true ∧ itemRange (.tallyCtl 0 5) = .enum 1
    ∧ 1 < (2 : Word).toNat ∧ (1 : Word).toNat ≤ 1 ∧ tableFits .panel (.temp 17) 150 live = true
    ∧ tableFits .panel (.temp 2) 0 live = false
    ∧ tableStands .drive live live.settings.temp ∧ tableStands .drive tablePending (live.settings.temp.set 2 250)
    ∧ Port.drive ≠ .panel :=
  ⟨by unfold takesFrames; decide, by decide, by decide, by decide, by decide, by decide, by decide, by decide, by decide, by decide,
   by decide, by decide, by decide, by decide, .inl ⟨by decide, rfl⟩, .inr ⟨.temp 2, 250, .inl ⟨by decide, by decide⟩, rfl⟩, by decide⟩

theorem test_witness_SettingsWriteCompletes : (working (.settings .panel (.config 7) 90)).mainRunning = true
    ∧ (working (.settings .panel (.config 7) 90)).engine.work = .settings .panel (.config 7) 90
    ∧ Item.config 6 ≠ .config 7 := by decide

theorem test_witness_AlertLevelWrites : takesFrames .drive live ∧ (12 : Index).toNat < 13 ∧ 1 ≤ (1 : Index).toNat
    ∧ ¬(Port.drive = .panel ∧ (7 : Index) = 7) ∧ takesFrames .panel live := by unfold takesFrames; decide

theorem test_witness_SetMaskSetsTheMask : takesFrames .drive live ∧ (8 : Code) = 8 ∧ (7 : Code) ≠ 8 := by
  unfold takesFrames; decide

theorem test_witness_TakeAlertTakesTheMostUrgent : takesFrames .drive live
    ∧ (∀ i : Fin 13, (live.alerts .drive).presentable i = false)
    ∧ takesFrames .drive { live with driveAlerts := live.driveAlerts.add .linkFault }
    ∧ ∃ i : Fin 13, (State.alerts { live with driveAlerts := live.driveAlerts.add .linkFault } .drive).presentable i = true := by
  unfold takesFrames; decide

theorem test_witness_CheckpointsQueueAnEntry : takesFrames .drive live ∧ takesFrames .drive { live with built := false }
    ∧ (fading .none).mayWrite .drive = false ∧ live.mayWrite .drive = true ∧ live.runClosed = true
    ∧ ([Request.journal .drive Snapshot.blank].any (Request.isOrigin .drive)) = true
    ∧ live.engine.queue.any (Request.isOrigin .drive) = false ∧ takesFrames .drive (fading .due)
    ∧ (fading .due).lastGaspWrites = true ∧ (fading .due).engine.queue.any (Request.isOrigin .lastgasp) = false := by
  unfold takesFrames; decide

theorem test_witness_EntriesCommit : (working (.entry 15 9 .tally Snapshot.blank)).mainRunning = true
    ∧ (working (.entry 15 9 .tally Snapshot.blank)).engine.work = .entry 15 9 .tally Snapshot.blank
    ∧ (fading .requested).mains.mode = .fading ∧ (fading .requested).mains.qualPending = false
    ∧ ({ fading .requested with mains := { (fading .requested).mains with qualPending := true } } : State).mains.qualPending
      = true := by decide

/-- A scan of `recorded`'s journal, or of one whose COMPLETE entry has the body `b`, in an evaluation of a chain of a quality. -/
def scanOf (b : Snapshot) (q : Quality) : State := { returned .evaluating with
  engine := { Engine.start with work := .scanning }
  journal := (live.journal.set 4 { completeSlot with body := b }).set 5 openSlot
  outage := { Outage.start with chainOpen := true, summary := { Outage.start.summary with quality := q } }
  flushedCopy := { Summary.factory with flushed := true, quality := .lowerBound, matchKey := some 8 } }

theorem test_witness_ScansBuildTheRecord : (working .scanning).mainRunning = true ∧ (working .scanning).engine.work = .scanning
    ∧ (working .scanning).handover.state ≠ .evaluating ∧ (∀ i : Fin 16, ¬(working .scanning).journal[i].headed)
    ∧ (∀ i : Fin 16, ¬(working .scanning).journal[i].whole)
    ∧ newestWith Slot.headed (scanOf completeSlot.body .known).journal 5
    ∧ newestWith Slot.whole (scanOf completeSlot.body .known).journal 4
    ∧ (scanOf completeSlot.body .unknown).handover.state = .evaluating ∧ (scanOf completeSlot.body .unknown).handover.late = false
    ∧ (scanOf completeSlot.body .unknown).outage.summary.quality = .unknown
    ∧ (scanOf completeSlot.body .unknown).flushedCopy.flushed = true
    ∧ (scanOf completeSlot.body .unknown).flushedCopy.quality = .lowerBound
    ∧ (scanOf completeSlot.body .unknown).flushedCopy.matchKey = some openSlot.seqNo
    ∧ (scanOf completeSlot.body .known).outage.summary.quality ≠ .unknown
    ∧ (after .scanComplete (scanOf completeSlot.body .known)).handover.state = .offeredAuto
    ∧ (after .scanComplete (scanOf { completeSlot.body with runReq := .paused } .known)).handover.state = .offeredHold
    ∧ ((after .scanComplete (scanOf { completeSlot.body with phase := .done } .known)).plan.map Plan.verdict) = some .none
    ∧ ((after .scanComplete (scanOf { completeSlot.body with deficit := 1000 } .known)).plan.map Plan.verdict) = some .ended := by
  unfold newestWith Slot.headed Slot.whole; decide

theorem test_witness_ServeTakesTheNextWork : live.mainRunning = true ∧ live.engine.work = .idle ∧ live.seq.backupFlush = false
    ∧ live.seq.flushCopy = none ∧ live.engine.scanDue = false ∧ live.engine.queue = [] ∧ (working .flush).engine.work ≠ .idle
    ∧ (working .idle).engine.writePos = some 0 ∧ live.engine.writePos = none := by decide

/-- A HEAT plan on offer in HOLD, with its kept inputs. -/
def held : State := { returned .offeredHold with
  kept := some ⟨some (entryOf .heat 240 0 .cw), some 5, 0⟩
  plan := some ((inputs (entryOf .heat 240 0 .cw) 4200 41).plan 1)
  outage := { Outage.start with chainOpen := true, summary := { Outage.start.summary with quality := .known, duration := 4200 } } }

theorem test_witness_ConfirmRecomputes : takesFrames .panel held ∧ held.handover.state = .offeredHold
    ∧ held.kept = some ⟨some (entryOf .heat 240 0 .cw), some 5, 0⟩
    ∧ ((held.evalIn ⟨some (entryOf .heat 240 0 .cw), some 5, 0⟩ true).plan 2).verdict = .auto
    ∧ (({ held with outage := { held.outage with summary := { held.outage.summary with quality := .unknown } } } : State).evalIn
        ⟨some (entryOf .heat 240 0 .cw), some 5, 0⟩ true |>.plan 2).verdict = .ended
    ∧ (returned .confirmed).handover.state ≠ .offeredHold ∧ takesFrames .drive held := by unfold takesFrames; decide

/-- An ANTICREASE plan on offer. -/
def offered : State := { held with
  handover := { HandOver.start with state := .offeredAuto }
  plan := some ((inputs (entryOf .anticrease 0 1530 .ccw) 2700 31).plan 1) }

theorem test_witness_AcceptAppliesThePlan : takesFrames .drive offered ∧ offered.handover.state = .offeredAuto
    ∧ offered.plan = some ((inputs (entryOf .anticrease 0 1530 .ccw) 2700 31).plan 1)
    ∧ ((inputs (entryOf .anticrease 0 1530 .ccw) 2700 31).plan 1).evalCount = (1 : Word).toNat ∧ (2 : Word) ≠ 0
    ∧ (2 : Word).toNat ≠ ((inputs (entryOf .anticrease 0 1530 .ccw) 2700 31).plan 1).evalCount
    ∧ ((inputs (entryOf .heat 240 0 .cw) 4200 41).plan 1).target = .heat ∧ offered.settings.cfg 1 = 0
    ∧ ((inputs (entryOf .cool 0 0 .cw) 4200 41).plan 1).target = .cool
    ∧ ((inputs (entryOf .anticrease 0 1530 .ccw) 2700 31).plan 1).target = .anticrease
    ∧ 0 < ((inputs (entryOf .anticrease 0 1530 .ccw) 2700 31).plan 1).windowRem
    ∧ 0 < ((inputs (entryOf .anticrease 0 1530 .ccw) 2700 31).plan 1).recovery
    ∧ ((inputs (entryOf .anticrease 0 1530 .ccw) 1799 31).plan 1).recovery = 0
    ∧ offered.lpr.phase ≠ ((inputs (entryOf .heat 240 0 .cw) 4200 41).plan 1).target
    ∧ (inPhase .heat).lpr.phase = ((inputs (entryOf .heat 240 0 .cw) 4200 41).plan 1).target
    ∧ offered.settings.cfg 1 ≠ 5 := by unfold takesFrames; decide

theorem test_witness_DeclineEndsTheProgramme : takesFrames .panel held ∧ held.handover.state.offering = true
    ∧ takesFrames .drive held ∧ held.handover.state ≠ .offeredAuto ∧ held.handover.state ≠ .confirmed ∧ takesFrames .panel live ∧ live.handover.state.offering = false := by unfold takesFrames; decide

/-- `held` in another state of the hand-over, with its scan over. -/
def offerIn (ho : HoState) : State := { held with handover := { HandOver.start with state := ho } }

theorem test_witness_NewLogItemsReachTheHandOver : (offerIn .closed).handover.state = .closed
    ∧ (offerIn .evaluating).handover.state = .evaluating ∧ (offerIn .evaluating).engine.scanDue = false
    ∧ (offerIn .evaluating).engine.work ≠ .scanning ∧ (working .scanning).engine.work = .scanning
    ∧ (offerIn .confirmed).handover.state = .confirmed ∧ ItemKind.sensorFault ≠ .doorOpen ∧ ItemKind.sensorFault ≠ .doorClose
    ∧ (offerIn .offeredAuto).handover.state = .offeredAuto
    ∧ (offerIn .offeredAuto).kept = some ⟨some (entryOf .heat 240 0 .cw), some 5, 0⟩
    ∧ (offerIn .offeredAuto).plan = some ((inputs (entryOf .heat 240 0 .cw) 4200 41).plan 1)
    ∧ (((offerIn .offeredAuto).evalIn ⟨some (entryOf .heat 240 0 .cw), some 5, 0⟩ false).plan 2).verdict = .auto
    ∧ (State.evalIn { offerIn .offeredAuto with
          outage := { held.outage with summary := { held.outage.summary with doorOpened := true } } }
        ⟨some (entryOf .heat 240 0 .cw), some 5, 0⟩ false |>.plan 2).verdict = .hold
    ∧ (State.evalIn { offerIn .offeredAuto with
          outage := { held.outage with summary := { held.outage.summary with quality := .unknown } } }
        ⟨some (entryOf .heat 240 0 .cw), some 5, 0⟩ false |>.plan 2).verdict = .ended
    ∧ live.mainRunning = true ∧ live.sensing.burst = none
    ∧ ({ live with sensing := { live.sensing with burst := some 65535 } } : State).sensing.burst = some 65535 := by decide

theorem test_witness_HeatPermitFollowsItsConditions : (inPhase .heat).hpm = true ∧ live.hpm = false ∧ live.mainRunning = true
    ∧ live.mains.mode = .run ∧ takesFrames .drive (inPhase .heat) ∧ (inPhase .heat).mayWrite .drive = true ∧ Phase.cool ≠ .heat
    ∧ driveMayWritePhase (inPhase .heat).lpr.phase .cool (inPhase .heat).lpr.runReq
    ∧ takesFrames .panel (inPhase .heat) ∧ (inPhase .heat).runClosed = true ∧ RunReq.paused ≠ .run ∧ live.sensing.door ≠ none
    ∧ (15 : BitVec 10).toNat < 16 ∧ 1007 < (1008 : BitVec 10).toNat
    ∧ (live.settings.cfg 7 : Int) ≤ temperatureOf live.settings.temp 16
    ∧ 16 ≤ (16 : BitVec 10).toNat ∧ (16 : BitVec 10).toNat ≤ 1007
    ∧ takesFrames .drive (inPhase .idle) ∧ (inPhase .idle).built = true ∧ (inPhase .idle).runClosed = true
    ∧ (inPhase .idle).lpr.runReq = .run ∧ (inPhase .idle).lpr.phase = .idle ∧ (inPhase .idle).sensing.door = some .closed
    ∧ (inPhase .idle).sensing.fault = false ∧ (inPhase .idle).sensing.lastTemp ≠ none
    ∧ (inPhase .idle).handover.overLimit = false := by unfold takesFrames driveMayWritePhase; decide


theorem test_witness_AutomaticHeatIsGuarded : (inputs (entryOf .heat 240 0 .cw) 4200 41).entry = some (entryOf .heat 240 0 .cw)
    ∧ 1 ≤ (inputs (entryOf .heat 240 0 .cw) 4200 41).prof.secPerUnit ∧ 60 ≤ (inputs (entryOf .heat 240 0 .cw) 4200 41).prof.hCap
    ∧ ((inputs (entryOf .heat 240 0 .cw) 4200 41).plan 1).verdict = .auto
    ∧ ((inputs (entryOf .heat 240 0 .cw) 4200 41).plan 1).target = .heat
    ∧ ({ inputs (entryOf .heat 240 0 .cw) 4200 41 with quality := .unknown } : EvalIn).cls = .unknown := by decide

/-- Each branch has inputs that lead to it; the deficits are at the edges of the branches. -/
theorem test_witness_DecisionsFollowTheEntry : ({ inputs (entryOf .heat 240 0 .cw) 600 41 with entry := none } : EvalIn).entry = none
    ∧ ({ inputs (entryOf .heat 240 0 .cw) 43201 41 with entry := none } : EvalIn).cls = .long
    ∧ ¬(entryOf .idle 0 0 .cw).body.resumable ∧ (entryOf .heat 0 0 .cw).body.resumable
    ∧ ({ inputs (entryOf .heat 240 0 .cw) 4200 41 with quality := .unknown } : EvalIn).cls = .unknown
    ∧ (inputs (entryOf .heat 240 0 .cw) 0 41).cls = .short ∧ ((inputs (entryOf .heat 0 0 .cw) 0 90).plan 1).target = .cool
    ∧ ((inputs (entryOf .heat 0 0 .cw) 0 40).plan 1).target = .anticrease
    ∧ ((inputs (entryOf .heat (factorySettings.prof 3).dAbandon 0 .cw) 0 41).plan 1).target = .heat
    ∧ ((inputs (entryOf .heat ((factorySettings.prof 3).dAbandon + 1) 0 .cw) 0 40).plan 1).verdict = .ended
    ∧ ((inputs (entryOf .heat ((factorySettings.prof 3).dAbandon + 1) 0 .cw) 0 90).plan 1).verdict = .hold
    ∧ ((inputs (entryOf .cool 0 0 .cw) 0 90).plan 1).target = .cool
    ∧ ((inputs (entryOf .cool 0 0 .cw) 0 40).plan 1).target = .anticrease
    ∧ ((inputs (entryOf .anticrease 0 1530 .ccw) 0 31).plan 1).target = .anticrease
    ∧ 1 ≤ (factorySettings.prof 3).coolMin := by unfold Snapshot.resumable; decide


theorem test_witness_TumbleAckStartsThePulse : takesFrames .drive (tumble .due) ∧ (tumble .due).sched.state = .due
    ∧ takesFrames .drive (tumble .tumbling) ∧ (tumble .tumbling).sched.state ≠ .due ∧ takesFrames .panel (tumble .due) := by
  unfold takesFrames; decide

theorem test_witness_SchedulerExpiries : (tumble .resting).mainRunning = true ∧ (tumble .resting).schedRuns = true
    ∧ (tumble .due).schedRuns = true ∧ (tumble .tumbling).schedRuns = true ∧ (tumble .recovery).schedRuns = true
    ∧ (tumble .resting).lpr.phaseClock < (tumble .resting).sched.windowEnd
    ∧ ({ tumble .resting with lpr := { (tumble .resting).lpr with phaseClock := 5400 } } : State).sched.windowEnd ≤ 5400
    ∧ (tumble .due).sched.missed < 2
    ∧ 2 ≤ ({ tumble .due with sched := { (tumble .due).sched with missed := 2 } } : State).sched.missed := by decide

theorem test_witness_PhaseClockCounts : (tumble .resting).mainRunning = true ∧ (tumble .resting).clockCounts = true
    ∧ (tumble .resting).sched.state = .resting
    ∧ ¬((tumble .resting).sched.windowEnd ≤ min 65535 ((tumble .resting).lpr.phaseClock + 1))
    ∧ ({ tumble .due with lpr := { (tumble .due).lpr with phaseClock := 5399 } } : State).clockCounts = true
    ∧ (tumble .due).sched.windowEnd ≤ min 65535 (5399 + 1) := by decide

theorem test_witness_PulsesAndFading : live.mainRunning = true ∧ live.mains.accepted = true
    ∧ live.mains.lossTimer + 6999 < 7000 ∧ 13000 < live.mains.lossTimer + 13001 ∧ 7000 ≤ live.mains.lossTimer + 7000
    ∧ live.mains.lossTimer + 13000 ≤ 13000 ∧ live.mains.mode = .run ∧ (fading .due).mainRunning = true
    ∧ (fading .due).mains.mode = .fading ∧ (fading .due).mains.window.isSome = true ∧ (fading .due).mains.lastGasp = .due
    ∧ (fading .due).engine.queue.any (Request.isOrigin .lastgasp) = false ∧ (fading .none).mains.lastGasp = .none
    ∧ (fading .none).mains.qualPending = false
    ∧ ({ fading .none with mains := { (fading .none).mains with qualPending := true } } : State).mains.qualPending = true := by
  decide

theorem test_witness_QualificationReturns : live.mainRunning = true ∧ live.mains.accepted = true ∧ 7 ≤ live.mains.runCount
    ∧ 7000 ≤ live.mains.lossTimer + 7000 ∧ live.mains.lossTimer + 13000 ≤ 13000
    ∧ ({ live with mains := { live.mains with mode := .waking } } : State).outage.chainOpen = false
    ∧ (fading .due).mains.mode = .fading ∧ 7 ≤ (fading .due).mains.runCount ∧ (fading .due).mains.lastGasp = .due
    ∧ (fading .due).engine.queue.any (Request.isOrigin .lastgasp) = false ∧ (fading .requested).mains.lastGasp = .requested
    ∧ (fading .none).mains.lastGasp = .none ∧ (fading .none).seq.burst = none ∧ (fading .none).outage.log.length < 24 := by
  decide

/-- FADING before the qualifying pulse, the sequencer in a state with a burst of 3 open; the door, the drum at `q` and a fault
differ from what the references hold. -/
def qualifying (st : SeqState) (q : Quad) : State := { fading .none with
  seq := { Sequencer.start with state := st, pace := 2, quiet := 1, burst := some 3 }
  sensing := { live.sensing with door := some .opened, quad := some q, fault := true }
  refs := ⟨some .closed, some .q0, some 40⟩ }

theorem test_returnFromWatch :
    ((after (.zeroCrossPulse 10000) (qualifying .watch .q1)).outage.log.map LogItem.kind,
      (after (.zeroCrossPulse 10000) (qualifying .watch .q1)).seq.state,
      (after (.zeroCrossPulse 10000) (qualifying .watch .q1)).sensing.burst)
    = ([.drumMove, .mainsReturn, .doorOpen, .sensorFault], .dormant, some 1) := by decide

theorem test_returnWhileFlushing :
    ((after (.zeroCrossPulse 10000) (qualifying .flushing .q2)).outage.log.map LogItem.kind,
      (after (.zeroCrossPulse 10000) (qualifying .flushing .q2)).seq.state,
      (after (.zeroCrossPulse 10000) (qualifying .flushing .q2)).seq.returnSeen)
    = ([.mainsReturn, .doorOpen, .motionUncertain, .sensorFault], .flushing, true) := by decide

theorem test_witness_LossSequence : live.mainRunning = true ∧ live.mains.mode = .run ∧ live.handover.state = .closed
    ∧ live.outage.chainOpen = false ∧ (returned .confirmed).mains.mode = .run ∧ (returned .confirmed).outage.chainOpen = true
    ∧ (returned .confirmed).handover.state ≠ .closed ∧ live.seq.state = .dormant
    ∧ ({ live with seq := { live.seq with state := .spent } } : State).seq.state ≠ .dormant
    ∧ (returned .confirmed).sensing.burst = none ∧ (returned .confirmed).outage.summary.backupLow = false
    ∧ ({ returned .closed with sensing := { live.sensing with burst := some 3 } } : State).sensing.burst = some 3 := by decide

/-- A loss while an entry is being written: the write goes on, the scan that was due and the requests that waited are gone. -/
theorem test_lossDuringWrite :
    (after .lossDeclaration { working (.entry 3 9 .drive Snapshot.blank) with
      engine.queue := [.journal .phase Snapshot.blank], engine.scanDue := true, engine.curSeq := some 9 }).engine
    = { (working (.entry 3 9 .drive Snapshot.blank)).engine with curSeq := some 9 } := by decide

theorem test_witness_DomainsStartAndEnd : ({ live with rstn := true } : State).rstn = true ∧ live.vdd = true ∧ live.rstn = false
    ∧ live.vbk = true ∧ ({ live with vdd := false } : State).vdd = false
    ∧ ({ live with vdd := false, vbk := false } : State).vbk = false
    ∧ live.mainRunning = true ∧ live.outage.chainOpen = false ∧ live.seq.state = .dormant
    ∧ (returned .closed).outage.chainOpen = true
    ∧ (∀ pos n o b, live.engine.work ≠ .entry pos n o b)
    ∧ (working (.entry 3 9 .drive Snapshot.blank)).engine.work = .entry 3 9 .drive Snapshot.blank
    ∧ (working (.entry 3 9 .drive Snapshot.blank)).journal[(3 : Fin 16)].commit ≠ some 9
    ∧ CutStep.commit ≠ .header :=
  ⟨by decide, by decide, by decide, by decide, by decide, by decide, by decide, by decide, by decide, by decide,
   fun _ _ _ _ h => Work.noConfusion h, by decide, by decide, by decide⟩

/-- VDD collapses while RSTN is held low with a chain open: the chain stays, the DORMANT sequencer watches it. -/
theorem test_collapseInReset : ({ returned .closed with rstn := true } : State).mainRunning = false
    ∧ (fun v : State => (v.vdd, v.rstn, v.outage, v.seq.state, v.seq.toSample))
      (after (.vddCollapse .body) { returned .closed with rstn := true })
    = (false, false, (returned .closed).outage, .watch, live.settings.cfg 4 * 1000 / 8) := by decide

theorem test_witness_DoorChangesAreHandedOn : live.mainRunning = true ∧ live.logger = false
    ∧ ({ live with sensing := { live.sensing with door := none } } : State).sensing.door = none
    ∧ (returned .evaluating).logger = true ∧ (returned .evaluating).refs.door = none ∧ live.sensing.door = some .closed
    ∧ ({ live with sensing := { live.sensing with door := some .opened } } : State).outage.chainOpen = false
    ∧ (tumble .resting).sched.state.timed = true ∧ live.sched.state.timed = false
    ∧ (returned .evaluating).outage.log.length < 24
    ∧ ({ returned .evaluating with refs := ⟨some .opened, none, none⟩ } : State).refs.door = some .opened
    ∧ ({ returned .evaluating with refs := ⟨some .opened, none, none⟩ } : State).logger = true
    ∧ live.sensing.door ≠ some .opened := by decide

theorem test_witness_DrumMovesAreTracked : live.mainRunning = true ∧ live.logger = false
    ∧ ({ live with sensing := { live.sensing with quad := none } } : State).sensing.quad = none
    ∧ live.sensing.quad = some .q0 ∧ quadMove .q0 .q3 = .step .ccw ∧ live.sensing.acc + -1 = -1 ∧ quadMove .q0 .q2 = .opposite
    ∧ (returned .evaluating).logger = true
    ∧ ({ live with sensing := { live.sensing with burst := some 65535 } } : State).outage.log.length < 24
    ∧ (returned .evaluating).refs.quad = none
    ∧ ({ returned .evaluating with refs := ⟨none, some .q3, none⟩ } : State).refs.quad = some .q3 ∧ quadMove .q3 .q0 = .step .cw
    ∧ quadMove .q3 .q1 = .opposite ∧ (returned .evaluating).sensing.quad = some .q0 := by decide

theorem test_witness_HeaterSamplesAndSeconds : live.mainRunning = true ∧ live.hpm = false
    ∧ ({ live with sensing := { live.sensing with episode := .running } } : State).sensing.episode = .running
    ∧ 50 ≤ ({ live with sensing := { live.sensing with htsHighs := 50 } } : State).sensing.htsHighs := by decide

theorem test_witness_ThermistorConversions : live.mainRunning = true ∧ 16 ≤ (16 : BitVec 10).toNat
    ∧ (1007 : BitVec 10).toNat ≤ 1007 ∧ live.sensing.fault = false ∧ (15 : BitVec 10).toNat < 16 ∧ 1007 < (1008 : BitVec 10).toNat
    ∧ ({ live with sensing := { live.sensing with fault := true } } : State).sensing.fault = true ∧ live.logger = false
    ∧ codesRise factoryTemp ∧ ¬codesRise (factoryTemp.set 2 16) ∧ (16 : BitVec 10).toNat ≤ codeAt factoryTemp 0
    ∧ codeAt factoryTemp 8 ≤ (1007 : BitVec 10).toNat ∧ (620 : BitVec 10).toNat = codeAt factoryTemp 5
    ∧ codeAt factoryTemp (4 : Fin 8).castSucc < (501 : BitVec 10).toNat
    ∧ (619 : BitVec 10).toNat < codeAt factoryTemp (4 : Fin 8).succ
    ∧ (returned .evaluating).logger = true ∧ (returned .evaluating).sensing.fault = false := by unfold codesRise; decide

/-- A fault that a port has taken ends: SENSOR_FAULT and the taken mark leave together; a port that has not taken it keeps it. -/
theorem test_takenFaultEnds :
    (fun t : State => (t.panelAlerts.has Alert.sensorFault.num, t.panelAlerts.taken, t.driveAlerts.has Alert.sensorFault.num))
      (after (.thermistorConversion 600) { live with
        sensing := { live.sensing with fault := true }
        panelAlerts := { live.panelAlerts.add .sensorFault with taken := true }
        driveAlerts := live.driveAlerts.add .sensorFault })
    = (false, false, true) := by decide

/-- From the points 500, 50 °C and 620, 38 °C of Table 4-3: code 505 is exactly 49.5 °C, a half, and gives 50; 506 gives 49. -/
theorem test_halvesRoundUp :
    (temperatureOf live.settings.temp 505, temperatureOf live.settings.temp 506, temperatureOf live.settings.temp 600)
    = (50, 49, 40) := by decide

theorem test_witness_SamplesWatchTheOutage : watching.vbk = true ∧ watching.seq.state = .watch
    ∧ ({ watching with outage.summary.quality := .known } : State).outage.summary.quality = .known
    ∧ min 6000 (2490 / 10 * 10) < watching.seq.floor ∧ watching.seq.floor ≤ min 6000 (2509 / 10 * 10)
    ∧ (16 ≤ (1007 : BitVec 10).toNat ∧ (1007 : BitVec 10).toNat ≤ 1007) ∧ watching.refs.quad = some .q0
    ∧ watching.outage.log.length ≤ 18
    ∧ quadMove .q0 .q1 = .step .cw := by decide

/-- A sample below the floor flushes the summary it leaves; at 8 s and pace 3 an interval is 1 s, the remainder is kept. -/
theorem test_flushedSummary :
    ((after (.sample true .q1 600 2490) { watching with outage.summary.quality := .known }).seq.flushCopy.map fun m =>
      (m.quarters, m.quality, m.doorOpenSec, m.flushed))
    = some (1, .lowerBound, 1, true) := by decide

theorem test_witness_FlushesAndTheOutageTimer : live.vbk = true
    ∧ ({ watching with seq := { watching.seq with flushCopy := some Summary.factory, backupFlush := true } } : State).flushRuns
      = true
    ∧ (returned .closed).outage.chainOpen = true ∧ (returned .closed).seq.state = .dormant ∧ watching.seq.state = .watch
    ∧ live.outage.chainOpen = false ∧ ({ live with seq := { live.seq with state := .spent } } : State).seq.state = .spent := by
  decide

end Sys2Proof.Tests
end

section
/-! PROOFS. A decoded frame of a command, and WRITEs of the Live Progress Record (spec/01_the_live_progress_record.md): the frame
rule of the ports, the checks of R3 before a field's own rule, and the programme (R6). -/

namespace Sys2Proof.Machine

/-! ### A decoded frame (R175, R176) -/

/-- The state that a decoded frame hands to the owning block: the port's all-ones mark is clear (R175). -/
def State.unmarked (s : State) (p : Port) : State := s.setPort p ((s.port p).mark false)

@[simp] theorem State.unmarked_built (s : State) (p : Port) : (s.unmarked p).built = s.built := s.setPort_built p _

@[simp] theorem State.unmarked_lpr (s : State) (p : Port) : (s.unmarked p).lpr = s.lpr := s.setPort_lpr p _

@[simp] theorem State.unmarked_mayWrite (s : State) (p q : Port) : (s.unmarked p).mayWrite q = s.mayWrite q := by
  cases q <;> simp only [State.mayWrite, State.runClosed, State.lastGaspWrites, State.unmarked, State.setPort_mains,
    State.setPort_handover]

/-- A port that takes frames hands a frame other than the all-ones one to its block, and loads the block's answer. -/
theorem frameIn_of_takesFrames {p : Port} {s : State} {w : Frame} (ht : takesFrames p s) (hw : w ≠ allOnesFrame)
    (deal : State → Reply) : frameIn p w deal s = loadAnswer p w (deal (s.unmarked p)) := by
  obtain ⟨hrun, hsync⟩ := ht
  simp only [frameIn, hrun, hsync, hw, if_true, if_false, dealtFrame, State.unmarked]

/-- The answer loaded after a frame of known fields is the reply's, with the acknowledgement of Table 11-1. -/
theorem loadAnswer_frameOf (p : Port) (cmd cls : Code) (idx : Index) (data d : Word) (r : Result) (t : State) :
    loadAnswer p (frameOf cmd cls idx data) ⟨t.unmarked p, r, d⟩ = t.withAnswer p (answerOf cmd r idx d (ackOf cmd cls r)) := by
  simp only [loadAnswer, answerFor, frameCmd_frameOf, frameClass_frameOf, frameIndex_frameOf, State.unmarked,
    State.port_setPort, State.setPort_setPort]
  rfl

/-- A command's frame on a port that takes frames: the state is the one that the block leaves, with its answer in the port. -/
theorem frameIn_frameOf {p : Port} {s t : State} {cmd cls : Code} {idx : Index} {data d : Word} {r : Result}
    {deal : State → Reply} (ht : takesFrames p s) (hc : cmd ≠ 15) (hd : deal (s.unmarked p) = ⟨t.unmarked p, r, d⟩) :
    frameIn p (frameOf cmd cls idx data) deal s = t.withAnswer p (answerOf cmd r idx d (ackOf cmd cls r)) := by
  rw [frameIn_of_takesFrames ht (frameOf_ne_allOnes cmd cls idx data hc), hd, loadAnswer_frameOf]

/-! ### The checks of a LIVE write (R3) -/

section LiveWrite

variable {p : Port} {i : Nat} {free : Bool} {take : State → Reply} {s : State}

/-- The owner's write while writing is open to it and the field's own condition holds goes on to the field's own rule. -/
theorem liveWrite_taken (hb : s.built = true) (hm : s.mayWrite p = true) (hf : free = true) :
    liveWrite p p i free take s = take s := by
  simp [liveWrite, hb, hm, hf]

/-- The owner's write while the field's own condition fails is refused WRONG_STATE, whatever the value. -/
theorem liveWrite_wrongState (hb : s.built = true) (hf : free = false) :
    liveWrite p p i free take s = liveAnswer .wrongState i s := by
  simp [liveWrite, hb, hf]

end LiveWrite

/-! ### The programme (R6) -/

/-- An answer about the programme carries the number held. -/
theorem liveAnswer_programme {s : State} (r : Result) (hb : s.built = true) :
    liveAnswer r 0 s = ⟨s, r, BitVec.ofNat 16 s.lpr.programme.val⟩ := by
  simp [liveAnswer, readLive, hb, readNat, wordOf]

/-- A programme number up to 15 is stored, and the answer carries it. -/
theorem takeProgramme_ok {data : Word} {s : State} (hb : s.built = true) (h : data.toNat < 16) :
    takeProgramme data s = ⟨{ s with lpr.programme := ⟨data.toNat, h⟩ }, .ok, data⟩ := by
  rw [takeProgramme, dif_pos h, liveAnswer_programme]
  · simp only [BitVec.ofNat_toNat, BitVec.setWidth_eq]
  · exact hb

/-- A programme number above 15 is refused BAD_VALUE. -/
theorem takeProgramme_badValue {data : Word} {s : State} (hb : s.built = true) (h : 16 ≤ data.toNat) :
    takeProgramme data s = ⟨s, .badValue, BitVec.ofNat 16 s.lpr.programme.val⟩ := by
  rw [takeProgramme, dif_neg (Nat.not_lt.mpr h), liveAnswer_programme .badValue hb]

/-- In IDLE and DONE the Panel Port's write goes on to the value. -/
theorem dealProgramme_open {data : Word} {s : State} (hb : s.built = true) (hm : s.mayWrite .panel = true)
    (hp : s.lpr.phase = .idle ∨ s.lpr.phase = .done) : dealProgramme .panel data s = takeProgramme data s :=
  liveWrite_taken hb hm (by simpa using hp)

/-- In the other phases the Panel Port's write is refused WRONG_STATE. -/
theorem dealProgramme_closed {data : Word} {s : State} (hb : s.built = true)
    (hp : s.lpr.phase = .heat ∨ s.lpr.phase = .cool ∨ s.lpr.phase = .anticrease) :
    dealProgramme .panel data s = ⟨s, .wrongState, BitVec.ofNat 16 s.lpr.programme.val⟩ := by
  have hshut : (s.lpr.phase == .idle || s.lpr.phase == .done) = false := by
    rcases hp with hp | hp | hp <;> rw [hp] <;> rfl
  exact (liveWrite_wrongState hb hshut).trans (liveAnswer_programme .wrongState hb)

/-- WRITE of the programme answers as the record's block replies to its frame. -/
theorem exec_writeProgramme {p : Port} {data d : Word} {r : Result} {s t : State} (ht : takesFrames p s)
    (hd : dealProgramme p data (s.unmarked p) = ⟨t.unmarked p, r, d⟩) :
    exec (.writeProgramme p data) s = .next (t.withAnswer p (answerOf 2 r 0 d (ackOf 2 0 r))) := by
  have hframe : exec (.writeProgramme p data) s = .next (frameIn p (frameOf 2 0 0 data) (dealProgramme p data) s) := rfl
  rw [hframe, frameIn_frameOf ht (by decide) hd]

/-- Settles O24: the phase decides whether the write reaches the value, and the value whether it is stored. -/
theorem programmeWrites : Obligations.ProgrammeWrites := by
  intro data s ht hb hc
  have hb' := (s.unmarked_built .panel).trans hb
  have hm' := (s.unmarked_mayWrite .panel .panel).trans hc
  rw [← s.unmarked_lpr .panel]
  refine ⟨fun h hp => ?_, fun hp => ?_, fun h hp => ?_⟩
  · exact exec_writeProgramme ht ((dealProgramme_open hb' hm' hp).trans (takeProgramme_ok hb' h))
  · exact exec_writeProgramme ht (dealProgramme_closed hb' hp)
  · exact exec_writeProgramme ht ((dealProgramme_open hb' hm' hp).trans (takeProgramme_badValue hb' h))

end Sys2Proof.Machine
end

section
/-! PROOFS. The alert controller's commands (spec/10_alert_controller.md): what a source's presentability and the alert line
say of the pending set and the mask (R165), and SET_MASK (R168). -/

namespace Sys2Proof.Machine

/-! ### Presentable sources and the line (R165) -/

/-- A pending source is presentable if it is MAINS_LOSS or its level is below the mask. -/
theorem Alerts.presentable_iff (a : Alerts) (i : Fin 13) :
    a.presentable i = true ↔ a.has i = true ∧ (i = 0 ∨ a.levels[i] < a.mask) := by
  simp only [Alerts.presentable, Bool.and_eq_true, Bool.or_eq_true, beq_iff_eq, decide_eq_true_eq]

/-- The line is asserted while some source is presentable. -/
theorem Alerts.line_iff (a : Alerts) : a.line = true ↔ ∃ i : Fin 13, a.presentable i = true := by
  simp only [Alerts.line, List.any_eq_true, List.mem_finRange, true_and]

/-! ### A port's alerts beside its registers -/

/-- The answer in a port leaves the alerts of both ports. -/
@[simp] theorem State.withAnswer_alerts (s : State) (p r : Port) (a : Answer) : (s.withAnswer p a).alerts r = s.alerts r :=
  s.alerts_setPort p _ r

@[simp] theorem State.unmarked_alerts (s : State) (p r : Port) : (s.unmarked p).alerts r = s.alerts r :=
  s.alerts_setPort p _ r

/-- The all-ones mark clears beside a change of the port's alerts, in either order. -/
theorem State.unmarked_setAlerts (s : State) (p : Port) (a : Alerts) :
    (s.unmarked p).setAlerts p a = (s.setAlerts p a).unmarked p := by
  cases p <;> rfl

/-! ### SET_MASK (R168) -/

section SetMask

variable {p : Port} {cls : Code} {idx : Index} {data : Word} {s : State}

/-- A class other than 8 is refused BAD_OBJECT. -/
theorem dealSetMask_badObject (hc : cls ≠ 8) : dealSetMask p cls data s = ⟨s, .badObject, 0⟩ := if_pos hc

/-- On class 8 the mask becomes the data, at most 7; no mode, hand-over state or pending set is asked. -/
theorem dealSetMask_taken :
    dealSetMask p 8 data (s.unmarked p) =
      ⟨(s.setAlerts p { s.alerts p with mask := min 7 data.toNat }).unmarked p, if data.toNat ≤ 7 then .ok else .clamped,
        BitVec.ofNat 16 (min 7 data.toNat)⟩ := by
  rw [← State.unmarked_setAlerts, ← s.unmarked_alerts p p]
  rfl

/-- Both results of a taken SET_MASK are acknowledged as taken (Table 11-1). -/
theorem ackOf_setMask (c : Prop) [Decidable c] : ackOf 5 8 (if c then .ok else .clamped) = .taken := by
  split <;> rfl

/-- SET_MASK answers as the alert controller replies to its frame. -/
theorem exec_setMask {d : Word} {r : Result} {t : State} (ht : takesFrames p s)
    (hd : dealSetMask p cls data (s.unmarked p) = ⟨t.unmarked p, r, d⟩) :
    exec (.setMask p cls idx data) s = .next (t.withAnswer p (answerOf 5 r idx d (ackOf 5 cls r))) := by
  have hframe : exec (.setMask p cls idx data) s = .next (frameIn p (frameOf 5 cls idx data) (dealSetMask p cls data) s) := rfl
  rw [hframe, frameIn_frameOf ht (by decide) hd]

end SetMask

/-- Settles O35: on class 8 only the mask and the port's answer change, so the pending set and the levels that the presentable
sources and the line are read from are those before the command. -/
theorem setMaskSetsTheMask : Obligations.SetMaskSetsTheMask := by
  intro p cls idx data s ht
  refine ⟨fun hc => exec_setMask ht (dealSetMask_badObject hc), ?_⟩
  rintro rfl
  refine ⟨_, exec_setMask ht dealSetMask_taken, ?_, fun i => ?_, fun i => ?_, ?_⟩
  · rw [ackOf_setMask]
  · rw [State.withAnswer_alerts, State.alerts_setAlerts]
    rfl
  · rw [State.withAnswer_alerts, State.alerts_setAlerts]
    exact Alerts.presentable_iff _ i
  · exact Alerts.line_iff _

end Sys2Proof.Machine
end

section
/-! PROOFS. The frame ports (spec/11_frame_ports.md): no block that a frame is handed to moves a port's link, what a frame does on a
DESYNCED port (R174), all-ones frames and command 15 on a SYNCED one (R175), and NOP (R179). -/

namespace Sys2Proof.Machine

/-! ### A port's link: all of its state but the registers that the tallies own (R29, R32, R171) -/

/-- A port's link: its state without the read latch and the monitor selector. -/
def PortState.link (q : PortState) : PortState := { q with latch := none, monitor := none }

/-- The links of both ports. -/
def State.links (s : State) : PortState × PortState := (s.panelPort.link, s.drivePort.link)

@[simp] theorem PortState.link_allOnes (q : PortState) : q.link.allOnes = q.allOnes := rfl

/-- Unmoved links are unmoved on each port. -/
theorem State.link_of_links {s t : State} (h : t.links = s.links) (p : Port) : (t.port p).link = (s.port p).link := by
  obtain ⟨hpanel, hdrive⟩ := Prod.mk.inj h
  cases p
  · exact hpanel
  · exact hdrive

/-- A port's all-ones mark is part of its link. -/
theorem State.allOnes_of_links {s t : State} (h : t.links = s.links) (p : Port) : (t.port p).allOnes = (s.port p).allOnes := by
  rw [← PortState.link_allOnes, State.link_of_links h, PortState.link_allOnes]

/-- What the shared operations leave alone includes both links. -/
theorem Keeps.links {s t : State} (h : Keeps s t) : t.links = s.links := by
  rw [State.links, h.panelPort, h.drivePort, State.links]

/-- New alerts of a port leave the links. -/
theorem State.setAlerts_links (s : State) (p : Port) (a : Alerts) : (s.setAlerts p a).links = s.links := by
  cases p <;> rfl

/-- A port's state replaced by one with the same link leaves the links. -/
theorem State.setPort_links {s : State} {p : Port} {q : PortState} (h : q.link = (s.port p).link) :
    (s.setPort p q).links = s.links := by
  cases p
  · exact congrArg (·, s.drivePort.link) h
  · exact congrArg (s.panelPort.link, ·) h

/-- The replies of both branches leave the links at `l`. -/
theorem Reply.ite_links {c : Prop} [Decidable c] {a b : Reply} {l : PortState × PortState} (ha : a.st.links = l)
    (hb : b.st.links = l) : (if c then a else b).st.links = l := by
  split <;> assumption

/-! ### No block moves a link -/

section Blocks

variable (p : Port) (cls : Code) (idx : Index) (i : Nat) (data : Word) (s : State)

theorem dealNop_links : (dealNop p s).st.links = s.links := by
  unfold dealNop
  split
  · rfl
  · exact Reply.ite_links rfl rfl

/-- A READ moves the latch only. -/
theorem dealRead_links : (dealRead p cls idx data s).st.links = s.links := by
  change (afterRead s p cls idx).links = s.links
  unfold afterRead
  split
  · exact State.setPort_links rfl
  · rfl

/-- MONITOR moves the selector only. -/
theorem dealMonitor_links : (dealMonitor p cls data s).st.links = s.links := by
  refine Reply.ite_links rfl ?_
  split
  · exact State.setPort_links rfl
  · rfl

/-- The checks of a LIVE write leave the links; the field's own rule decides. -/
theorem liveWrite_links {owner : Port} {free : Bool} {take : State → Reply} (h : (take s).st.links = s.links) :
    (liveWrite owner p i free take s).st.links = s.links :=
  Reply.ite_links rfl (Reply.ite_links rfl (Reply.ite_links rfl h))

theorem takeProgramme_links : (takeProgramme data s).st.links = s.links := by
  unfold takeProgramme
  split <;> rfl

theorem storeRunReq_links (r : RunReq) : (storeRunReq r s).links = s.links := by
  unfold storeRunReq
  split
  · rfl
  · split
    · rfl
    · exact (suspendSched_keeps _).links

theorem cancelProgramme_links : (cancelProgramme s).links = s.links := by
  unfold cancelProgramme
  split
  · rfl
  · exact ((changeToDone_keeps s .cancel).trans (serve_keeps _)).links

theorem takeRunReq_links : (takeRunReq data s).st.links = s.links := by
  refine Reply.ite_links (cancelProgramme_links s) ?_
  split
  · exact storeRunReq_links s _
  · rfl

theorem takePhase_links : (takePhase data s).st.links = s.links := by
  unfold takePhase
  split
  · exact Reply.ite_links ((changePhase_keeps s _).trans (serve_keeps _)).links rfl
  · rfl

theorem dealLiveReadOnly_links : (dealLiveReadOnly i s).st.links = s.links :=
  Reply.ite_links rfl (Reply.ite_links rfl (Reply.ite_links rfl rfl))

theorem dealWriteLive_links : (dealWriteLive p i data s).st.links = s.links := by
  unfold dealWriteLive
  split
  · exact liveWrite_links p _ s (takeProgramme_links data s)
  · exact liveWrite_links p _ s (Reply.ite_links rfl rfl)
  · exact liveWrite_links p _ s (takeRunReq_links data s)
  · exact liveWrite_links p _ s (takePhase_links data s)
  · exact liveWrite_links p _ s rfl
  · exact dealLiveReadOnly_links i s

theorem dealTallyValue_links (t : Fin 6) (high : Bool) : (dealTallyValue p t high data s).st.links = s.links :=
  Reply.ite_links rfl (Reply.ite_links rfl (Reply.ite_links rfl (Reply.ite_links rfl rfl)))

theorem dealOverflow_links (t : Fin 6) : (dealOverflow p t data s).st.links = s.links :=
  Reply.ite_links rfl (Reply.ite_links rfl (Reply.ite_links rfl rfl))

theorem dealWriteTally_links : (dealWriteTally p i data s).st.links = s.links := by
  unfold dealWriteTally
  split
  · exact dealTallyValue_links p data s _ _
  · exact dealTallyValue_links p data s _ _
  · exact dealOverflow_links p data s _
  · rfl
  · rfl

theorem refusedSetting_links (it : Item) (r : Result) : (refusedSetting it r s).st.links = s.links := by
  unfold refusedSetting
  split
  · exact Reply.ite_links rfl rfl
  · rfl

theorem dealSetting_links (it : Item) : (dealSetting p it data s).st.links = s.links := by
  refine Reply.ite_links (refusedSetting_links s it _) (Reply.ite_links (refusedSetting_links s it _) ?_)
  split
  · exact refusedSetting_links s it _
  · exact Reply.ite_links (serve_keeps (requestSettings p it _ s)).links (refusedSetting_links s it _)

theorem dealSettingAt_links (it : Option Item) : (dealSettingAt p it data s).st.links = s.links := by
  cases it with
  | none => rfl
  | some it => exact dealSetting_links p data s it

theorem dealAlertLevel_links : (dealAlertLevel p i data s).st.links = s.links := by
  unfold dealAlertLevel
  split
  · exact s.setAlerts_links p _
  · rfl

theorem dealWrite_links : (dealWrite p cls idx data s).st.links = s.links := by
  unfold dealWrite
  split
  · exact dealWriteLive_links p _ data s
  · exact dealWriteTally_links p _ data s
  · exact dealSettingAt_links p data s _
  · exact dealAlertLevel_links p _ data s
  · exact dealSettingAt_links p data s _
  · exact dealSettingAt_links p data s _
  · exact dealSettingAt_links p data s _
  · rfl
  · rfl
  · rfl

theorem dealTakeAlert_links : (dealTakeAlert p cls s).st.links = s.links := by
  refine Reply.ite_links rfl ?_
  split
  · rfl
  · exact s.setAlerts_links p _

theorem dealSetMask_links : (dealSetMask p cls data s).st.links = s.links :=
  Reply.ite_links rfl (s.setAlerts_links p _)

theorem dealCheckpoint_links : (dealCheckpoint p cls s).st.links = s.links :=
  have htake : Keeps s (takeCheckpoint p s) := Keeps.ite (request_keeps s _) (makeLastGasp_keeps s)
  Reply.ite_links rfl (Reply.ite_links rfl (Reply.ite_links rfl (Reply.ite_links rfl (htake.trans (serve_keeps _)).links)))

theorem dealConfirm_links : (dealConfirm p cls s).st.links = s.links :=
  Reply.ite_links rfl (Reply.ite_links rfl (Reply.ite_links rfl ((recomputeConfirm_keeps s).trans (serve_keeps _)).links))

theorem dealAccept_links : (dealAccept p cls data s).st.links = s.links := by
  refine Reply.ite_links rfl (Reply.ite_links rfl (Reply.ite_links rfl ?_))
  split
  · rfl
  · exact Reply.ite_links rfl (((apply_keeps s _).trans (close_keeps _)).trans (serve_keeps _)).links

theorem dealDecline_links : (dealDecline p cls s).st.links = s.links :=
  Reply.ite_links rfl (Reply.ite_links rfl (Reply.ite_links rfl
    (((writeDone_keeps s .phase).trans (close_keeps _)).trans (serve_keeps _)).links))

theorem dealTumbleAck_links : (dealTumbleAck p cls s).st.links = s.links :=
  have hack : Keeps s (acknowledge s) := Keeps.trans Keeps.upd (deliver_keeps _ .tumblePulses 1)
  Reply.ite_links rfl (Reply.ite_links rfl (Reply.ite_links rfl (hack.trans (serve_keeps _)).links))

/-- Whatever block a frame is handed to, the links of both ports stay as they were. -/
theorem dealFrame_links (w : Frame) : (dealFrame p w s).st.links = s.links := by
  unfold dealFrame
  dsimp only
  split
  · exact dealNop_links p s
  · exact dealRead_links p _ _ _ s
  · exact dealWrite_links p _ _ _ s
  · exact dealCheckpoint_links p _ s
  · exact dealTakeAlert_links p _ s
  · exact dealSetMask_links p _ _ s
  · exact dealConfirm_links p _ s
  · exact dealAccept_links p _ _ s
  · exact dealDecline_links p _ s
  · exact Reply.ite_links rfl rfl
  · exact Reply.ite_links rfl rfl
  · exact dealMonitor_links p _ _ s
  · exact dealTumbleAck_links p _ s
  · rfl

end Blocks

/-! ### NOP (R179) -/

@[simp] theorem State.unmarked_port (s : State) (p : Port) : (s.unmarked p).port p = (s.port p).mark false := s.port_setPort p _

@[simp] theorem State.unmarked_tallies (s : State) (p : Port) : (s.unmarked p).tallies = s.tallies := s.setPort_tallies p _

section Nop

variable {p : Port} {s : State}

/-- No tally is selected: data 0. -/
theorem dealNop_none (h : (s.port p).monitor = none) : dealNop p s = ⟨s, .ok, 0⟩ := by
  simp only [dealNop, h, answered]

/-- A selected tally's low part is given while the tally values are built. -/
theorem dealNop_built {t : Fin 6} (h : (s.port p).monitor = some t) (hb : s.built = true) :
    dealNop p s = ⟨s, .ok, BitVec.ofNat 16 (s.tallies[t].value % 65536)⟩ := by
  simp only [dealNop, h, hb, if_true, answered, wordOf]

/-- A selected tally that is not built is BUSY. -/
theorem dealNop_unbuilt {t : Fin 6} (h : (s.port p).monitor = some t) (hb : s.built = false) :
    dealNop p s = ⟨s, .busy, 0⟩ := by
  simp only [dealNop, h, hb, Bool.false_eq_true, if_false, refusedPlain]

/-- NOP answers as the block replies to its frame. -/
theorem exec_nop {cls : Code} {idx : Index} {data d : Word} {r : Result} (ht : takesFrames p s)
    (hd : dealNop p (s.unmarked p) = ⟨s.unmarked p, r, d⟩) :
    exec (.nop p cls idx data) s = .next (s.withAnswer p (answerOf 0 r idx d (ackOf 0 cls r))) := by
  have hframe : exec (.nop p cls idx data) s = .next (frameIn p (frameOf 0 cls idx data) (dealNop p) s) := rfl
  rw [hframe, frameIn_frameOf ht (by decide) hd]

end Nop

/-- Settles O16: the selector, and under it the built mark, decide the reply; every reply leaves the state as it is. -/
theorem nopAnswersTheMonitor : Obligations.NopAnswersTheMonitor := by
  intro p cls idx data s ht
  have hm : ((s.unmarked p).port p).monitor = (s.port p).monitor := by rw [State.unmarked_port, PortState.mark_monitor]
  have hb := s.unmarked_built p
  refine ⟨fun hsel => ?_, fun t hsel hbuilt => ?_, fun t hsel hbuilt => ?_⟩
  · exact exec_nop ht (dealNop_none (hm.trans hsel))
  · rw [← s.unmarked_tallies p]
    exact exec_nop ht (dealNop_built (hm.trans hsel) (hb.trans hbuilt))
  · exact exec_nop ht (dealNop_unbuilt (hm.trans hsel) (hb.trans hbuilt))

/-! ### Frames on a SYNCED port (R175) -/

section Synced

variable {p : Port} {s : State} {w : Frame}

/-- A completed frame that is not all ones goes to its block, and its answer is loaded. -/
theorem receiveFrame_dealt (ht : takesFrames p s) (hw : w ≠ allOnesFrame) :
    receiveFrame p w s = loadAnswer p w (dealFrame p w (s.unmarked p)) := frameIn_of_takesFrames ht hw _

/-- An all-ones frame is the port's own. -/
theorem receiveFrame_allOnes (ht : takesFrames p s) :
    receiveFrame p allOnesFrame s = s.setPort p (s.port p).syncedAllOnes := by
  obtain ⟨hrun, hsync⟩ := ht
  simp only [receiveFrame, frameIn, hrun, hsync, if_true]

/-- A command code above 12 names no command (R178 check 1). -/
theorem dealFrame_undefined (h : 13 ≤ (frameCmd w).toNat) : dealFrame p w s = ⟨s, .badObject, 0⟩ := by
  unfold dealFrame
  dsimp only
  split
  case h_14 => rfl
  all_goals omega

/-- The answer loaded is the reply's, under the frame's own command and index. -/
theorem loadAnswer_eq_withAnswer (p : Port) (w : Frame) (r : Result) (d : Word) (t : State) :
    loadAnswer p w ⟨t.unmarked p, r, d⟩ =
      t.withAnswer p (answerOf (frameCmd w) r (frameIndex w) d (ackOf (frameCmd w) (frameClass w) r)) := by
  have h := loadAnswer_frameOf p (frameCmd w) (frameClass w) (frameIndex w) (frameData w) d r t
  rwa [frameOf_fields] at h

/-- The mark that was cleared before the block was asked is still clear once the answer is loaded. -/
theorem receiveFrame_clearsMark (ht : takesFrames p s) (hw : w ≠ allOnesFrame) :
    ((receiveFrame p w s).port p).allOnes = false := by
  rw [receiveFrame_dealt ht hw, loadAnswer, State.port_setPort]
  calc ((dealFrame p w (s.unmarked p)).st.port p).allOnes
      = ((s.unmarked p).port p).allOnes := State.allOnes_of_links (dealFrame_links p _ w) p
    _ = false := by rw [State.unmarked_port, PortState.mark_allOnes]

/-- A frame with command 15 that is not all ones is refused BAD_OBJECT. -/
theorem receiveFrame_code15 (ht : takesFrames p s) (hw : w ≠ allOnesFrame) (hc : frameCmd w = 15) :
    receiveFrame p w s = s.withAnswer p (answerOf 15 .badObject (frameIndex w) 0 .refused) := by
  have hundef : 13 ≤ (frameCmd w).toNat := by rw [hc]; decide
  rw [receiveFrame_dealt ht hw, dealFrame_undefined hundef, loadAnswer_eq_withAnswer, hc]
  rfl

end Synced

/-- The answer to a refused all-ones frame echoes its full command and index. -/
theorem answerFor_allOnes : answerFor allOnesFrame .badObject 0 = answerOf 15 .badObject 255 0 .refused := by decide

/-- The first all-ones frame of a pair sets the mark and is refused. -/
theorem PortState.syncedAllOnes_first {q : PortState} (h : q.allOnes = false) :
    q.syncedAllOnes = { q with allOnes := true, resp := some (answerOf 15 .badObject 255 0 .refused) } := by
  simp only [PortState.syncedAllOnes, h, Bool.false_eq_true, if_false, answerFor_allOnes, PortState.mark, PortState.load]

/-- The second resynchronises the port, with no frame ignored. -/
theorem PortState.syncedAllOnes_second {q : PortState} (h : q.allOnes = true) :
    q.syncedAllOnes = { q with ignored := 0 }.resync := if_pos h

/-- Settles O18: an all-ones frame by the mark it meets; for any other frame, no block moves the mark that the port has cleared. -/
theorem allOnesFramesOnASyncedPort : Obligations.AllOnesFramesOnASyncedPort := by
  intro p s ht
  have hexec : exec (.allOnesFrameSynced p) s = .next (s.setPort p (s.port p).syncedAllOnes) :=
    congrArg Host.Outcome.next (receiveFrame_allOnes ht)
  refine ⟨fun hm => ?_, fun hm => ?_, fun w t hw he => ?_, fun w hw hc => ?_⟩
  · rw [hexec, PortState.syncedAllOnes_first hm]
  · rw [hexec, PortState.syncedAllOnes_second hm]
    rfl
  · obtain rfl := Host.Outcome.next.inj he
    exact receiveFrame_clearsMark ht hw
  · exact congrArg Host.Outcome.next (receiveFrame_code15 ht hw hc)

/-! ### Frames on a DESYNCED port (R174) -/

/-- Without a waiting answer the acknowledge output stays high. -/
theorem PortState.pulse_of_empty {q : PortState} (h : q.resp = none) : q.pulse = 0 := by
  simp only [PortState.pulse, h]

/-- Without a waiting answer the data output is high for every bit. -/
theorem PortState.output_of_empty {q : PortState} (h : q.resp = none) : q.output = allOnesFrame := by
  simp only [PortState.output, h]

/-- The second all-ones frame of a pair resynchronises the port. -/
theorem PortState.desyncedFrame_second {q : PortState} (h : q.allOnes = true) : q.desyncedFrame allOnesFrame = q.resync := by
  simp only [PortState.desyncedFrame, h, if_true]

/-- The first is held by the mark. -/
theorem PortState.desyncedFrame_first {q : PortState} (h : q.allOnes = false) :
    q.desyncedFrame allOnesFrame = q.mark true := by
  simp only [PortState.desyncedFrame, h, Bool.false_eq_true, if_true, if_false]

/-- Any other frame is ignored and counted. -/
theorem PortState.desyncedFrame_ignored {q : PortState} {w : Frame} (hw : w ≠ allOnesFrame) (h : q.allOnes = false) :
    q.desyncedFrame w = { q with ignored := min 65535 (q.ignored + 1) } := by
  simp only [PortState.desyncedFrame, hw, if_false, h, Bool.false_eq_true]

/-- Where the mark holds an all-ones frame, that frame is counted with it and the mark is cleared. -/
theorem PortState.desyncedFrame_ignoredPair {q : PortState} {w : Frame} (hw : w ≠ allOnesFrame) (h : q.allOnes = true) :
    q.desyncedFrame w = { q with ignored := min 65535 (q.ignored + 2), allOnes := false } := by
  simp only [PortState.desyncedFrame, hw, if_false, h, if_true]

/-- A frame completed on a DESYNCED port is the port's own. -/
theorem exec_frameWhileDesynced {p : Port} {s : State} (hrun : s.mainRunning = true) (hdes : (s.port p).synced = false)
    (w : Frame) : exec (.frameWhileDesynced p w) s = .next (s.setPort p ((s.port p).desyncedFrame w)) := by
  have hframe : exec (.frameWhileDesynced p w) s = .next (frameIn p w (dealFrame p w) s) := rfl
  rw [hframe]
  simp only [frameIn, hrun, hdes, Bool.false_eq_true, if_true, if_false]

/-- Settles O19: the frame and the mark it meets decide what the port becomes; its register is empty until the pair is complete. -/
theorem framesWhileDesynced : Obligations.FramesWhileDesynced := by
  intro p w s hrun hdes hempty
  rw [exec_frameWhileDesynced hrun hdes]
  refine ⟨PortState.pulse_of_empty hempty, PortState.output_of_empty hempty, rfl, ?_, ?_, fun hw hm => ?_, fun hw hm => ?_⟩
  · rintro rfl hm
    rw [PortState.desyncedFrame_second hm]
    rfl
  · rintro rfl hm
    rw [PortState.desyncedFrame_first hm]
    rfl
  · rw [PortState.desyncedFrame_ignored hw hm]
  · rw [PortState.desyncedFrame_ignoredPair hw hm]

end Sys2Proof.Machine
end

section
/-! PROOFS. The resume evaluator (spec/07_resume_evaluation.md): what every plan shows, the reasons as a sum of codes, each row's
decision, and what an automatic heat phase rests on. -/

namespace Sys2Proof.Machine

/-! ### The numbers of a plan stay in range -/

section

variable {i : EvalIn} {e : Snapshot}

/-- W_sec is at most 43200 s (R116). -/
theorem Prof.wSec_le (p : Prof) (o : Options) : p.wSec o ≤ 43200 := Nat.min_le_left _ _

theorem EvalIn.remainder_inRange {d a : Nat} {x h : BitVec 12} (hd : d ≤ 1000) (ha : a ≤ 65535) :
    (i.remainder e d a x h).inRange := by
  unfold EvalIn.remainder
  dsimp only
  split
  · exact ⟨hd, ha⟩
  · split <;> exact ⟨hd, ha⟩

theorem EvalIn.regained_le : i.regained e ≤ 1000 := Nat.min_le_left _ _

theorem EvalIn.heatEntry_inRange : (i.heatEntry e).inRange := by
  have hd : i.regained e ≤ 1000 := i.regained_le
  unfold EvalIn.heatEntry
  dsimp only
  split
  · unfold EvalIn.abandonBranch
    split <;> exact ⟨hd, Nat.zero_le _⟩
  · split
    · unfold EvalIn.dryBranch
      dsimp only
      repeat' split
      · exact ⟨Nat.zero_le _, Nat.zero_le _⟩
      · exact ⟨Nat.zero_le _, Nat.zero_le _⟩
      · exact ⟨Nat.zero_le _, Nat.zero_le _⟩
      · exact i.remainder_inRange (Nat.zero_le _) (Nat.zero_le _)
    · exact ⟨hd, Nat.zero_le _⟩

theorem EvalIn.coolEntry_inRange (h : e.deficit ≤ 1000) : (i.coolEntry e).inRange := by
  have hw := i.prof.wSec_le e.options
  unfold EvalIn.coolEntry
  dsimp only
  repeat' split
  · exact ⟨h, Nat.zero_le _⟩
  · exact i.remainder_inRange h (by omega)
  · exact ⟨h, Nat.zero_le _⟩

theorem EvalIn.anticreaseEntry_inRange (h : e.deficit ≤ 1000) : (i.anticreaseEntry e).inRange := by
  unfold EvalIn.anticreaseEntry
  repeat' split
  · exact ⟨h, Nat.zero_le _⟩
  · exact ⟨h, Nat.zero_le _⟩
  · exact i.remainder_inRange h (Nat.min_le_left _ _)

end

/-! ### The rows of R119 -/

section

variable {i : EvalIn} {en : Entry} {n : Nat}

theorem EvalIn.plan_none (h : i.entry = none) : i.plan n = { i.base .none .idle 0 with evalCount := n } := by
  simp only [EvalIn.plan, h]

/-- An entry that is not to resume. -/
theorem EvalIn.plan_settled (h : i.entry = some en) (hr : ¬en.body.resumable) :
    i.plan n = { i.base .none en.body.phase en.body.deficit with evalCount := n } := by
  have hc : en.body.phase = .idle ∨ en.body.phase = .done ∨ en.body.runReq = .stopped := by
    simp only [Snapshot.resumable] at hr
    tauto
  simp only [EvalIn.plan, h, if_pos hc]

/-- An entry to resume after an UNKNOWN outage. -/
theorem EvalIn.plan_unknown (h : i.entry = some en) (hr : en.body.resumable) (hu : i.cls = .unknown) :
    i.plan n = { (i.base .ended .done en.body.deficit).addReasons rOutageUnknown with evalCount := n } := by
  obtain ⟨h1, h2, h3⟩ := hr
  simp only [EvalIn.plan, h, h1, h2, h3, hu, or_self, if_true, if_false]

/-- An entry to resume in a phase: the phase's own row. -/
theorem EvalIn.plan_phase {p : Plan} (h : i.entry = some en) (hr : en.body.resumable) (hu : i.cls ≠ .unknown)
    (hp : en.body.phase = .heat ∧ p = i.heatEntry en.body ∨ en.body.phase = .cool ∧ p = i.coolEntry en.body
      ∨ en.body.phase = .anticrease ∧ p = i.anticreaseEntry en.body) :
    i.plan n = { p with evalCount := n } := by
  obtain ⟨h1, h2, h3⟩ := hr
  rcases hp with ⟨hp, rfl⟩ | ⟨hp, rfl⟩ | ⟨hp, rfl⟩ <;>
    simp only [EvalIn.plan, h, hp, h3, hu, or_self, if_false, reduceCtorEq]

/-- Every plan of an entry is one of the rows. -/
theorem EvalIn.plan_cases (h : i.entry = some en) :
    (¬en.body.resumable ∧ i.plan n = { i.base .none en.body.phase en.body.deficit with evalCount := n })
    ∨ (en.body.resumable ∧ i.cls = .unknown
      ∧ i.plan n = { (i.base .ended .done en.body.deficit).addReasons rOutageUnknown with evalCount := n })
    ∨ (en.body.resumable ∧ i.cls ≠ .unknown ∧ ∃ p, i.plan n = { p with evalCount := n }
      ∧ (en.body.phase = .heat ∧ p = i.heatEntry en.body ∨ en.body.phase = .cool ∧ p = i.coolEntry en.body
        ∨ en.body.phase = .anticrease ∧ p = i.anticreaseEntry en.body)) := by
  by_cases hr : en.body.resumable
  · by_cases hu : i.cls = .unknown
    · exact .inr (.inl ⟨hr, hu, EvalIn.plan_unknown h hr hu⟩)
    · have hph : en.body.phase = .heat ∨ en.body.phase = .cool ∨ en.body.phase = .anticrease := by
        obtain ⟨h1, h2, -⟩ := hr
        cases hp : en.body.phase <;> simp_all
      refine .inr (.inr ⟨hr, hu, ?_⟩)
      rcases hph with hp | hp | hp
      · exact ⟨_, EvalIn.plan_phase h hr hu (.inl ⟨hp, rfl⟩), .inl ⟨hp, rfl⟩⟩
      · exact ⟨_, EvalIn.plan_phase h hr hu (.inr (.inl ⟨hp, rfl⟩)), .inr (.inl ⟨hp, rfl⟩)⟩
      · exact ⟨_, EvalIn.plan_phase h hr hu (.inr (.inr ⟨hp, rfl⟩)), .inr (.inr ⟨hp, rfl⟩)⟩
  · exact .inl ⟨hr, EvalIn.plan_settled h hr⟩

end

/-- A plan from an entry in range is in range. -/
theorem EvalIn.plan_inRange (i : EvalIn) (n : Nat) (h : ∀ e, i.entry = some e → e.body.inRange) : (i.plan n).inRange := by
  cases hen : i.entry with
  | none => rw [EvalIn.plan_none hen]; exact ⟨Nat.zero_le _, Nat.zero_le _⟩
  | some en =>
    obtain ⟨hd, -⟩ := h en hen
    rcases EvalIn.plan_cases (n := n) hen with ⟨-, e⟩ | ⟨-, -, e⟩ | ⟨-, -, p, e, hp⟩ <;> rw [e]
    · exact ⟨hd, Nat.zero_le _⟩
    · exact ⟨hd, Nat.zero_le _⟩
    · rcases hp with ⟨-, rfl⟩ | ⟨-, rfl⟩ | ⟨-, rfl⟩
      · exact i.heatEntry_inRange
      · exact i.coolEntry_inRange hd
      · exact i.anticreaseEntry_inRange hd

/-! ### What every plan shows (R127) -/

/-- The fields of a plan that every row gives, and those that only their own target uses. -/
def EvalIn.shows (i : EvalIn) (p : Plan) : Prop :=
  p.tOut = i.tOut ∧ p.cls = i.cls ∧ p.nextDir = (i.entry.map (·.body.nextDir)).getD .cw
    ∧ p.programme = (i.entry.map (·.body.programme)).getD 0
    ∧ p.options = (i.entry.map (·.body.options)).getD Options.empty ∧ p.sourceSeq = i.entry.map (·.seqNo) ∧ p.tRet = i.tRet
    ∧ (p.target ≠ .heat → p.rawHeat = 0 ∧ p.credit = 0 ∧ p.heatSec = 0) ∧ (p.target ≠ .cool → p.coolSec = 0)

section

variable {i : EvalIn} {e : Snapshot}

/-- A plan that differs from a row's start in none of these fields shows them. -/
theorem EvalIn.shows_of_base {p : Plan} {ph : Phase} {d : Nat}
    (h : p = { i.base .none ph d with
      verdict := p.verdict, reasons := p.reasons, elapsed := p.elapsed, windowRem := p.windowRem, offset := p.offset,
      recovery := p.recovery, evalCount := p.evalCount }) : i.shows p := by
  rw [h]
  exact ⟨rfl, rfl, rfl, rfl, rfl, rfl, rfl, fun _ => ⟨rfl, rfl, rfl⟩, fun _ => rfl⟩

theorem EvalIn.remainder_shows (d a : Nat) (x h : BitVec 12) : i.shows (i.remainder e d a x h) := by
  unfold EvalIn.remainder
  dsimp only
  split
  · exact EvalIn.shows_of_base rfl
  · split <;> exact EvalIn.shows_of_base rfl

/-- A plan for the cool phase shows them, whatever its cooling time. -/
theorem EvalIn.cool_shows {p : Plan} {d : Nat}
    (h : p = { i.base .none .cool d with verdict := p.verdict, reasons := p.reasons, coolSec := p.coolSec }) : i.shows p := by
  rw [h]
  exact ⟨rfl, rfl, rfl, rfl, rfl, rfl, rfl, fun _ => ⟨rfl, rfl, rfl⟩, fun h => absurd rfl h⟩

theorem EvalIn.heatEntry_shows : i.shows (i.heatEntry e) := by
  unfold EvalIn.heatEntry
  dsimp only
  split
  · unfold EvalIn.abandonBranch
    split
    · exact EvalIn.cool_shows rfl
    · exact EvalIn.shows_of_base rfl
  · split
    · unfold EvalIn.dryBranch
      dsimp only
      repeat' split
      · exact EvalIn.cool_shows rfl
      · exact EvalIn.shows_of_base rfl
      · exact EvalIn.shows_of_base rfl
      · exact EvalIn.remainder_shows _ _ _ _
    · exact ⟨rfl, rfl, rfl, rfl, rfl, rfl, rfl, fun h => absurd rfl h, fun _ => rfl⟩

theorem EvalIn.coolEntry_shows : i.shows (i.coolEntry e) := by
  unfold EvalIn.coolEntry
  dsimp only
  repeat' split
  · exact EvalIn.shows_of_base rfl
  · exact EvalIn.remainder_shows _ _ _ _
  · exact EvalIn.cool_shows rfl

theorem EvalIn.anticreaseEntry_shows : i.shows (i.anticreaseEntry e) := by
  unfold EvalIn.anticreaseEntry
  repeat' split
  · exact EvalIn.shows_of_base rfl
  · exact EvalIn.shows_of_base rfl
  · exact EvalIn.remainder_shows _ _ _ _

theorem EvalIn.plan_shows {en : Entry} {n : Nat} (h : i.entry = some en) : i.shows (i.plan n) := by
  rcases EvalIn.plan_cases (n := n) h with ⟨-, e⟩ | ⟨-, -, e⟩ | ⟨-, -, p, e, hp⟩ <;> rw [e]
  · exact EvalIn.shows_of_base rfl
  · exact EvalIn.shows_of_base rfl
  · have hs : i.shows p := by
      rcases hp with ⟨-, rfl⟩ | ⟨-, rfl⟩ | ⟨-, rfl⟩
      · exact EvalIn.heatEntry_shows
      · exact EvalIn.coolEntry_shows
      · exact EvalIn.anticreaseEntry_shows
    exact hs

end

/-! ### Reasons as a sum of codes (Table 7-6) -/

/-- The bits `x` are the codes of the tests of `l` that hold, none of them a code of R120 (64, 128, 1024). -/
@[reducible] def codesAre (x : BitVec 12) (l : List (Bool × Nat)) : Prop := x &&& 1216 = 0 ∧ x.toNat = codeSum l

theorem codesAre_nil : codesAre 0 [] := by decide

theorem codesAre_known (b : Bool) : codesAre (reasonIf b rCoolSatisfied) [(b, 2048)] := by decide +revert

theorem codesAre_window (b : Bool) : codesAre (reasonIf b rCoolSatisfied ||| rWindowExpired) [(b, 2048), (true, 32)] := by
  decide +revert

theorem codesAre_paused (b c : Bool) : codesAre (reasonIf b rCoolSatisfied ||| reasonIf c rPaused) [(b, 2048), (c, 512)] := by
  decide +revert

theorem codesAre_doorPaused (a b c : Bool) :
    codesAre (reasonIf c rCoolSatisfied ||| (reasonIf a rDoorOpened ||| reasonIf b rPaused)) [(c, 2048), (a, 1), (b, 512)] := by
  decide +revert

theorem codesAre_doorPaused_only (a b : Bool) :
    codesAre (reasonIf a rDoorOpened ||| reasonIf b rPaused) [(a, 1), (b, 512)] := by decide +revert

/-- The tests of the heat branch. -/
theorem codesAre_heat (a b c d e : Bool) :
    codesAre (reasonIf a rDoorOpened ||| reasonIf b rOutageLong ||| reasonIf c rDrumDisturbed ||| reasonIf d rNoAuto
      ||| reasonIf e rPaused) [(a, 1), (b, 2), (c, 8), (d, 256), (e, 512)] := by decide +revert

/-- No bit of the codes is set exactly where no test of them holds: the verdict of `holdIf`. -/
theorem heat_holds (a b c d e : Bool) :
    (reasonIf a rDoorOpened ||| reasonIf b rOutageLong ||| reasonIf c rDrumDisturbed ||| reasonIf d rNoAuto
      ||| reasonIf e rPaused = 0) ↔ (a || b || c || d || e) = false := by decide +revert

theorem doorPaused_holds (a b : Bool) : (reasonIf a rDoorOpened ||| reasonIf b rPaused = 0) ↔ (a || b) = false := by
  decide +revert

theorem paused_holds (b : Bool) : (reasonIf b rPaused = 0) ↔ b = false := by decide +revert

theorem codeSum_append (l m : List (Bool × Nat)) : codeSum (l ++ m) = codeSum l + codeSum m := by
  simp only [codeSum, List.map_append, List.sum_append]

/-- The reasons of R120 are their codes, and lie within 1216. -/
theorem baseReasons_codes (a b c : Bool) :
    (reasonIf a rTornSkipped ||| reasonIf b rSensorFault ||| reasonIf c rResetReturn) &&& 1216
        = reasonIf a rTornSkipped ||| reasonIf b rSensorFault ||| reasonIf c rResetReturn
      ∧ (reasonIf a rTornSkipped ||| reasonIf b rSensorFault ||| reasonIf c rResetReturn).toNat
        = codeSum [(a, 64), (b, 128), (c, 1024)] := by decide +revert

section

variable {i : EvalIn} {e : Snapshot} {p : Plan} {x h : BitVec 12} {l hs : List (Bool × Nat)} {d : Nat}

/-- Reasons beside those of R120 add their codes. -/
theorem reasonsAre_of (hp : p.reasons = i.baseReasons ||| x) (hx : codesAre x l) : reasonsAre i l p := by
  obtain ⟨hd, hl⟩ := hx
  obtain ⟨hb, hc⟩ := baseReasons_codes (decide (1 ≤ i.torn)) i.fault i.resetSeen
  have hdis : i.baseReasons &&& x = 0 := by
    unfold EvalIn.baseReasons
    rw [← hb, BitVec.and_assoc, BitVec.and_comm _ x, hd]
    exact BitVec.and_zero
  rw [reasonsAre, hp, ← BitVec.add_eq_or_of_and_eq_zero _ _ hdis, BitVec.toNat_add_of_and_eq_zero hdis, hl, codeSum_append]
  exact congrArg (· + codeSum l) hc

/-- The reasons of R120 alone. -/
theorem reasonsAre_base (hp : p.reasons = i.baseReasons) : reasonsAre i [] p :=
  reasonsAre_of (x := 0) (hp.trans BitVec.or_zero.symm) codesAre_nil

/-- A row that ends the programme. -/
theorem endsWith_of (hx : codesAre x l) : endsWith i d l ((i.base .ended .done d).addReasons x) :=
  ⟨rfl, rfl, rfl, reasonsAre_of rfl hx⟩

/-- A row that offers a phase. -/
theorem offers_of {ph : Phase} (hx : codesAre (x ||| h) (l ++ hs)) (hz : h = 0 ↔ hs.any Prod.fst = false) :
    offers i ph d l hs (((i.base .auto ph d).addReasons x).holdIf h) := by
  refine ⟨?_, rfl, rfl, reasonsAre_of (BitVec.or_assoc _ _ _) hx⟩
  change (if h = 0 then Verdict.auto else .hold) = _
  by_cases h0 : h = 0
  · rw [if_pos h0, hz.mp h0]; rfl
  · rw [if_neg h0, Bool.eq_true_of_not_eq_false (mt hz.mpr h0)]; rfl

/-- A row that offers a phase without reasons of its own. -/
theorem offers_of_nil {ph : Phase} (hx : codesAre h hs) (hz : h = 0 ↔ hs.any Prod.fst = false) :
    offers i ph d [] hs ((i.base .auto ph d).holdIf h) := by
  have ho : offers i ph d [] hs (((i.base .auto ph d).addReasons 0).holdIf h) :=
    offers_of (by rw [show 0 ||| h = h from BitVec.zero_or]; exact hx) hz
  have he : (i.base .auto ph d).addReasons 0 = i.base .auto ph d := by simp [Plan.addReasons]
  rwa [he] at ho

/-- The anti-crease remainder (R121). -/
theorem EvalIn.remainder_is {a : Nat} (hw : codesAre (x ||| rWindowExpired) (l ++ [(true, 32)]))
    (hx : codesAre (x ||| h) (l ++ hs)) (hz : h = 0 ↔ hs.any Prod.fst = false) :
    remainderIs i e.options d a l hs (i.remainder e d a x h) := by
  rintro u rfl
  have hends (q : Plan) (hv : q.verdict = .ended) (ht : q.target = .done) (hd : q.dPrime = d)
      (hr : q.reasons = i.baseReasons ||| x ||| rWindowExpired) : endsWith i d (l ++ [(true, 32)]) q :=
    ⟨hv, ht, hd, reasonsAre_of (hr.trans (BitVec.or_assoc _ _ _)) hw⟩
  have hwin : windowSec i e.options = i.prof.wSec e.options := rfl
  have hu : min i.prof.tumble (i.prof.period - 1) = i.prof.uEff := rfl
  rw [hwin, hu]
  unfold EvalIn.remainder
  dsimp only
  split
  · rename_i hle
    exact ⟨rfl, (Nat.sub_eq_zero_of_le hle).symm, fun _ => hends _ rfl rfl rfl rfl, fun _ => by omega⟩
  · split
    · exact ⟨rfl, rfl, fun _ => hends _ rfl rfl rfl rfl, fun _ => by omega⟩
    · have ho := offers_of (i := i) (ph := .anticrease) (d := d) hx hz
      exact ⟨rfl, rfl, fun _ => by omega, fun _ => ⟨ho, rfl, rfl⟩⟩

end

/-! ### The rows of R122 to R126 -/

section

variable {i : EvalIn} {e : Snapshot} {d : Nat}

theorem EvalIn.hot_cooled (h : i.hot = true) : i.cooled = false := by
  unfold EvalIn.hot EvalIn.cooled at *
  cases ht : i.tRet with
  | none => rfl
  | some t => simp only [ht, decide_eq_true_eq] at h; simp only [decide_eq_false_iff_not]; omega

/-- The abandon branch (R123). -/
theorem EvalIn.abandonBranch_is :
    (i.hot = true → 1 ≤ i.prof.coolMin →
      (i.abandonBranch d).verdict = .hold ∧ (i.abandonBranch d).target = .cool ∧ (i.abandonBranch d).dPrime = d
        ∧ reasonsAre i [(true, 16)] (i.abandonBranch d) ∧ (i.abandonBranch d).coolSec = i.prof.coolMin)
    ∧ (i.hot = false ∨ i.prof.coolMin = 0 → endsWith i d [(true, 16)] (i.abandonBranch d)) := by
  have hx : codesAre rDeficitAbandon [(true, 16)] := by decide
  unfold EvalIn.abandonBranch
  split
  · rename_i h
    exact ⟨fun _ _ => ⟨rfl, rfl, rfl, reasonsAre_of rfl hx, rfl⟩, fun hn => by simp [h.1] at hn; omega⟩
  · rename_i h
    exact ⟨fun h1 h2 => absurd ⟨h1, h2⟩ h, fun _ => endsWith_of hx⟩

/-- The dry branch (R123). -/
theorem EvalIn.dryBranch_is :
    (i.hot = true → 1 ≤ i.prof.coolMin →
      offers i .cool 0 [] [(i.doorOpened, 1), (i.pausedTest e, 512)] (i.dryBranch e)
        ∧ (i.dryBranch e).coolSec = i.prof.coolMin)
    ∧ (i.hot = false ∨ i.prof.coolMin = 0 →
      (i.doorOpened = true → endsWith i 0 [(i.cooled, 2048), (true, 1)] (i.dryBranch e))
      ∧ (i.doorOpened = false → e.options.noAnticrease = true → endsWith i 0 [(i.cooled, 2048)] (i.dryBranch e))
      ∧ (i.doorOpened = false → e.options.noAnticrease = false →
        remainderIs i e.options 0 0 [(i.cooled, 2048)] [(i.pausedTest e, 512)] (i.dryBranch e))) := by
  unfold EvalIn.dryBranch
  dsimp only
  split
  · rename_i h
    refine ⟨fun hh _ => ⟨?_, rfl⟩, fun hn => by simp [h.1] at hn; omega⟩
    rw [i.hot_cooled hh]
    have hsat : (i.base .auto .cool 0).addReasons (reasonIf false rCoolSatisfied) = i.base .auto .cool 0 := by
      simp [Plan.addReasons, reasonIf]
    rw [hsat]
    exact offers_of_nil (i := i) (ph := .cool) (d := 0) (codesAre_doorPaused_only _ _) ((doorPaused_holds _ _).trans (by simp))
  · rename_i h
    refine ⟨fun h1 h2 => absurd ⟨h1, h2⟩ h, fun _ => ?_⟩
    cases hd : i.doorOpened
    · cases hn : e.options.noAnticrease
      · exact ⟨nofun, nofun, fun _ _ => EvalIn.remainder_is (codesAre_window _) (codesAre_paused _ _)
          ((paused_holds _).trans (by simp))⟩
      · exact ⟨nofun, fun _ _ => endsWith_of (codesAre_known _), nofun⟩
    · have hx (b : Bool) : codesAre (reasonIf b rCoolSatisfied ||| rDoorOpened) [(b, 2048), (true, 1)] := by decide +revert
      exact ⟨fun _ => ⟨rfl, rfl, rfl, reasonsAre_of (BitVec.or_assoc _ _ _) (hx _)⟩, nofun, nofun⟩

/-- The heat branch (R124). -/
theorem EvalIn.heatBranch_is :
    offers i .heat d [] [(i.doorOpened, 1), (decide (i.cls = .long), 2),
      (decide (i.prof.disturb < i.quarters ∨ i.uncertain = true), 8), (decide (i.prof.autoResume = 0), 256),
      (i.pausedTest e, 512)] (i.heatBranch e d)
    ∧ (i.heatBranch e d).rawHeat = d * i.prof.secPerUnit
    ∧ (i.heatBranch e d).credit = min i.rawCredit ((i.heatBranch e d).rawHeat / 2)
    ∧ (i.heatBranch e d).heatSec = min i.prof.hCap ((i.heatBranch e d).rawHeat - (i.heatBranch e d).credit) := by
  have hdis : i.disturbed = decide (i.prof.disturb < i.quarters ∨ i.uncertain = true) := by
    simp only [EvalIn.disturbed, Bool.decide_or, Bool.decide_eq_true]
  refine ⟨?_, rfl, rfl, rfl⟩
  rw [← hdis]
  exact offers_of_nil (i := i) (ph := .heat) (d := d)
    (codesAre_heat i.doorOpened (i.cls == .long) i.disturbed (i.prof.autoResume == 0) (i.pausedTest e))
    ((heat_holds _ _ _ _ _).trans (by simp [Bool.or_assoc]))

/-- An entry in COOL (R125). -/
theorem EvalIn.coolEntry_is :
    (i.cooled = true →
      (e.options.noAnticrease = true → endsWith i e.deficit [(true, 2048)] (i.coolEntry e))
      ∧ (e.options.noAnticrease = false →
        remainderIs i e.options e.deficit (min i.tOut (windowSec i e.options)) [(true, 2048)]
          [(i.doorOpened, 1), (i.pausedTest e, 512)] (i.coolEntry e)))
    ∧ (i.cooled = false →
      offers i .cool e.deficit [] [(i.doorOpened, 1), (i.pausedTest e, 512)] (i.coolEntry e)
        ∧ (i.coolEntry e).coolSec = max 60 (i.prof.coolMin - e.phaseClock)) := by
  unfold EvalIn.coolEntry
  dsimp only
  cases hc : i.cooled
  · exact ⟨nofun, fun _ => ⟨offers_of_nil (i := i) (ph := .cool) (d := e.deficit)
      (codesAre_doorPaused_only i.doorOpened (i.pausedTest e)) ((doorPaused_holds _ _).trans (by simp)), rfl⟩⟩
  · cases hn : e.options.noAnticrease
    · exact ⟨fun _ => ⟨nofun, fun _ => EvalIn.remainder_is (codesAre_window true)
        (codesAre_doorPaused _ _ true) ((doorPaused_holds _ _).trans (by simp))⟩, nofun⟩
    · exact ⟨fun _ => ⟨fun _ => endsWith_of (codesAre_known true), nofun⟩, nofun⟩

/-- An entry in ANTICREASE (R126). -/
theorem EvalIn.anticreaseEntry_is :
    (i.doorOpened = true → endsWith i e.deficit [(true, 1)] (i.anticreaseEntry e))
    ∧ (i.doorOpened = false → e.options.noAnticrease = true → endsWith i e.deficit [] (i.anticreaseEntry e))
    ∧ (i.doorOpened = false → e.options.noAnticrease = false →
      remainderIs i e.options e.deficit (min 65535 (e.phaseClock + i.tOut)) [] [(i.pausedTest e, 512)]
        (i.anticreaseEntry e)) := by
  unfold EvalIn.anticreaseEntry
  cases hd : i.doorOpened
  · cases hn : e.options.noAnticrease
    · refine ⟨nofun, nofun, fun _ _ => EvalIn.remainder_is (by decide) ?_ ((paused_holds _).trans (by simp))⟩
      have hx (b : Bool) : codesAre (0 ||| reasonIf b rPaused) ([] ++ [(b, 512)]) := by decide +revert
      exact hx _
    · exact ⟨nofun, fun _ _ => ⟨rfl, rfl, rfl, reasonsAre_base rfl⟩, nofun⟩
  · exact ⟨fun _ => endsWith_of (x := rDoorOpened) (by decide), nofun, nofun⟩

end

/-- Every input row is settled or a row of an entry to resume: a plan whose verdict is not NONE has one. -/
theorem EvalIn.resumable_of_verdict {i : EvalIn} {n : Nat} (hv : (i.plan n).verdict ≠ .none) :
    ∃ en, i.entry = some en ∧ en.body.resumable := by
  cases h : i.entry with
  | none => rw [EvalIn.plan_none h] at hv; exact absurd rfl hv
  | some en =>
    refine ⟨en, rfl, by_contra fun hr => ?_⟩
    rw [EvalIn.plan_settled h hr] at hv
    exact hv rfl

/-! ### Heat phases (R124, R34) -/

section

variable {i : EvalIn} {e : Snapshot}

theorem EvalIn.remainder_target_ne_heat (d a : Nat) (x h : BitVec 12) : (i.remainder e d a x h).target ≠ .heat := by
  unfold EvalIn.remainder
  dsimp only
  split
  · exact nofun
  · split <;> exact nofun

theorem EvalIn.dryBranch_target_ne_heat : (i.dryBranch e).target ≠ .heat := by
  unfold EvalIn.dryBranch
  dsimp only
  repeat' split
  · exact nofun
  · exact nofun
  · exact nofun
  · exact EvalIn.remainder_target_ne_heat _ _ _ _

theorem EvalIn.coolEntry_target_ne_heat : (i.coolEntry e).target ≠ .heat := by
  unfold EvalIn.coolEntry
  dsimp only
  repeat' split
  · exact nofun
  · exact EvalIn.remainder_target_ne_heat _ _ _ _
  · exact nofun

theorem EvalIn.anticreaseEntry_target_ne_heat : (i.anticreaseEntry e).target ≠ .heat := by
  unfold EvalIn.anticreaseEntry
  repeat' split
  · exact nofun
  · exact nofun
  · exact EvalIn.remainder_target_ne_heat _ _ _ _

/-- Of the rows of an entry in HEAT only the heat branch plans heat, for a deficit above 0. -/
theorem EvalIn.heatEntry_target_heat (h : (i.heatEntry e).target = .heat) :
    i.regained e ≠ 0 ∧ i.heatEntry e = i.heatBranch e (i.regained e) := by
  unfold EvalIn.heatEntry at *
  dsimp only at *
  split at h
  · unfold EvalIn.abandonBranch at h
    split at h <;> exact nomatch h
  · split at h
    · exact absurd h EvalIn.dryBranch_target_ne_heat
    · rename_i h1 h2
      exact ⟨h2, by rw [if_neg h1, if_neg h2]⟩

/-- A heat phase planned for an entry to resume is the heat branch's. -/
theorem EvalIn.plan_target_heat {en : Entry} {n : Nat} (h : i.entry = some en) (hr : en.body.resumable)
    (ht : (i.plan n).target = .heat) :
    en.body.phase = .heat ∧ i.cls ≠ .unknown ∧ i.regained en.body ≠ 0
      ∧ i.plan n = { i.heatBranch en.body (i.regained en.body) with evalCount := n } := by
  rcases EvalIn.plan_cases (n := n) h with ⟨hn, -⟩ | ⟨-, -, e⟩ | ⟨-, hu, p, e, hp⟩
  · exact absurd hr hn
  · rw [e] at ht; exact nomatch ht
  · have htp : p.target = .heat := by rw [e] at ht; exact ht
    rcases hp with ⟨hph, rfl⟩ | ⟨-, rfl⟩ | ⟨-, rfl⟩
    · obtain ⟨hd, hb⟩ := EvalIn.heatEntry_target_heat htp
      exact ⟨hph, hu, hd, by rw [e, hb]⟩
    · exact absurd htp EvalIn.coolEntry_target_ne_heat
    · exact absurd htp EvalIn.anticreaseEntry_target_ne_heat

/-- A planned heat phase lasts at least a second and at most the profile's cap. -/
theorem EvalIn.plan_heatSec {en : Entry} {n : Nat} (h : i.entry = some en) (hr : en.body.resumable)
    (hs : 1 ≤ i.prof.secPerUnit) (hc : 60 ≤ i.prof.hCap) (ht : (i.plan n).target = .heat) :
    1 ≤ (i.plan n).heatSec ∧ (i.plan n).heatSec ≤ i.prof.hCap := by
  obtain ⟨-, -, hd, e⟩ := EvalIn.plan_target_heat h hr ht
  obtain ⟨-, hraw, hcr, hsec⟩ := i.heatBranch_is (e := en.body) (d := i.regained en.body)
  have hpos : 1 ≤ i.regained en.body * i.prof.secPerUnit := Nat.mul_pos (Nat.pos_of_ne_zero hd) hs
  rw [← hraw] at hpos
  rw [e]
  dsimp only
  omega

end

/-- Settles O46: a heat phase is the heat branch's, whose verdict is AUTO only where none of its tests holds. -/
theorem automaticHeatIsGuarded : Obligations.AutomaticHeatIsGuarded := by
  intro i en n h hs hc
  have hres (hv : (i.plan n).verdict ≠ .none) : en.body.resumable := by
    obtain ⟨en', h', hr⟩ := EvalIn.resumable_of_verdict hv
    rw [h] at h'
    exact Option.some.inj h' ▸ hr
  refine ⟨fun hv ht => EvalIn.plan_heatSec h (hres hv) hs hc ht, fun hv ht => ?_, fun hu => ?_⟩
  · have hr := hres (by rw [hv]; exact nofun)
    obtain ⟨hph, hu, -, e⟩ := EvalIn.plan_target_heat h hr ht
    obtain ⟨⟨hverdict, -⟩, -⟩ := i.heatBranch_is (e := en.body) (d := i.regained en.body)
    have hauto : (i.heatBranch en.body (i.regained en.body)).verdict = .auto := by rw [e] at hv; exact hv
    rw [hauto] at hverdict
    have hnone := (ite_eq_right_iff.mp hverdict.symm : _ → Verdict.hold = .auto)
    simp only [List.any_cons, List.any_nil, Bool.or_eq_true, decide_eq_true_eq, reduceCtorEq, imp_false, not_or,
      Bool.false_eq_true, not_false_eq_true, and_true, Bool.not_eq_true] at hnone
    obtain ⟨hdoor, hlong, ⟨hdist, hunc⟩, hauto, hpaused⟩ := hnone
    obtain ⟨-, -, hstop⟩ := hr
    refine ⟨hph, hdoor, ?_, hunc, Nat.le_of_not_lt hdist, hauto, ?_⟩
    · cases hcls : i.cls with
      | short => exact .inl rfl
      | medium => exact .inr rfl
      | long => exact absurd hcls hlong
      | unknown => exact absurd hcls hu
    · simp only [EvalIn.pausedTest, Bool.and_eq_false_iff, beq_eq_false_iff_ne, Bool.not_eq_false'] at hpaused
      cases hrun : en.body.runReq with
      | run => exact .inl rfl
      | stopped => exact absurd hrun hstop
      | paused => exact .inr (hpaused.resolve_left (absurd hrun))
  · by_cases hr : en.body.resumable
    · rw [EvalIn.plan_unknown h hr hu]; exact .inr rfl
    · rw [EvalIn.plan_settled h hr]; exact .inl rfl

/-- The outage class of an entry's evaluation (Table 7-4). -/
theorem EvalIn.cls_of_entry {i : EvalIn} {en : Entry} (h : i.entry = some en) :
    i.cls = (match i.quality with
      | .unknown => .unknown
      | .lowerBound => .long
      | .known => if i.tOut ≤ i.prof.sShort then .short else if i.tOut ≤ i.prof.lHeat * 60 then .medium else .long) := by
  cases hq : i.quality <;> simp [EvalIn.cls, hq, h]

/-- The class without an entry, as far as every profile gives it (log 11). -/
theorem EvalIn.cls_without_entry {i : EvalIn} (h : i.entry = none) :
    (i.quality = .unknown → i.cls = .unknown) ∧ (i.quality = .lowerBound → i.cls = .long)
    ∧ (i.quality = .known → (i.tOut = 0 → i.cls = .short) ∧ (600 < i.tOut → i.cls ≠ .short) ∧ (43200 < i.tOut → i.cls = .long)) := by
  refine ⟨fun hq => by simp [EvalIn.cls, hq], fun hq => by simp [EvalIn.cls, hq], fun hq => ?_⟩
  have hc : i.cls = classWithoutProfile i.tOut i.openClass := by simp [EvalIn.cls, hq, h]
  rw [hc]
  unfold classWithoutProfile
  refine ⟨fun h0 => by simp [h0], fun h6 => ?_, fun h4 => ?_⟩
  · rw [if_neg (by omega)]
    split
    · exact nofun
    · split
      · exact nofun
      · rename_i hn
        exact fun hs => hn ⟨h6, hs⟩
  · rw [if_neg (by omega), if_pos h4]

/-- Settles O47: the class, what every plan shows, and the rows one by one. -/
theorem decisionsFollowTheEntry : Obligations.DecisionsFollowTheEntry := by
  refine ⟨fun i n h => ?_, ?_⟩
  · obtain ⟨hu, hl, hk⟩ := EvalIn.cls_without_entry h
    rw [EvalIn.plan_none h]
    refine ⟨rfl, rfl, rfl, ?_, reasonsAre_base rfl, hu, hl, hk⟩
    change i.entry.map (·.seqNo) = none
    rw [h]; rfl
  · rintro i en n p h rfl
    obtain ⟨hout, hcls, hdir, hprog, hopt, hseq, htret, hheat, hcool⟩ := EvalIn.plan_shows (n := n) h
    rw [h] at hdir hprog hopt hseq
    refine ⟨EvalIn.cls_of_entry h, rfl, hout, hcls, hdir, hprog, hopt, hseq, htret, hheat, hcool, fun hr => ?_,
      fun hr hu => ?_, fun hr hu hot cooled paused d hhot hcooled hpaused hd => ?_⟩
    · rw [EvalIn.plan_settled h hr]
      exact ⟨rfl, rfl, rfl, reasonsAre_base rfl⟩
    · rw [EvalIn.plan_unknown h hr hu]
      exact ⟨rfl, rfl, rfl, reasonsAre_of rfl (by decide)⟩
    · have hhot' : hot = i.hot := by rw [hhot]; unfold EvalIn.hot; cases i.tRet <;> rfl
      have hcooled' : cooled = i.cooled := by rw [hcooled]; unfold EvalIn.cooled; cases i.tRet <;> rfl
      have hpaused' : paused = i.pausedTest en.body := hpaused
      have hd' : d = i.regained en.body := hd
      rw [hhot', hcooled', hpaused', hd']
      refine ⟨fun hp hab => ?_, fun hp hab h0 => ?_, fun hp hab h0 => ?_, fun hp => ?_, fun hp => ?_, fun hp => ?_⟩
      · rw [EvalIn.plan_phase h hr hu (.inl ⟨hp, rfl⟩)]
        have hb : i.heatEntry en.body = i.abandonBranch (i.regained en.body) := by
          unfold EvalIn.heatEntry; exact if_pos hab
        rw [hb]
        exact EvalIn.abandonBranch_is
      · rw [EvalIn.plan_phase h hr hu (.inl ⟨hp, rfl⟩)]
        have hb : i.heatEntry en.body = i.dryBranch en.body := by
          unfold EvalIn.heatEntry; dsimp only; rw [if_neg (by omega), if_pos h0]
        rw [hb]
        exact EvalIn.dryBranch_is
      · rw [EvalIn.plan_phase h hr hu (.inl ⟨hp, rfl⟩)]
        have hb : i.heatEntry en.body = i.heatBranch en.body (i.regained en.body) := by
          unfold EvalIn.heatEntry; dsimp only; rw [if_neg (by omega), if_neg h0]
        rw [hb]
        obtain ⟨ho, hraw, hcr, hsec⟩ := i.heatBranch_is (e := en.body) (d := i.regained en.body)
        refine ⟨ho, hraw, hcr.trans (congrArg (min · _) ?_), hsec⟩
        unfold EvalIn.rawCredit
        cases i.tRet <;> rfl
      · rw [EvalIn.plan_phase h hr hu (.inr (.inl ⟨hp, rfl⟩))]
        exact EvalIn.coolEntry_is.1
      · rw [EvalIn.plan_phase h hr hu (.inr (.inl ⟨hp, rfl⟩))]
        exact EvalIn.coolEntry_is.2
      · rw [EvalIn.plan_phase h hr hu (.inr (.inr ⟨hp, rfl⟩))]
        exact EvalIn.anticreaseEntry_is

end Sys2Proof.Machine
end

section
/-! PROOFS. What the routing makes of each command's frame (Table 11-3, R177, R178): a frame command acts as its 32-bit word. -/

set_option Elab.async false

namespace Sys2Proof.Machine

section

variable (p : Port) (cls : Code) (idx : Index) (data : Word)

/-- The routing of a frame put together from its fields. -/
theorem dealFrame_frameOf (cmd : Code) (s : State) : dealFrame p (frameOf cmd cls idx data) s =
    match cmd.toNat with
    | 0 => dealNop p s
    | 1 => dealRead p cls idx data s
    | 2 => dealWrite p cls idx data s
    | 3 => dealCheckpoint p cls s
    | 4 => dealTakeAlert p cls s
    | 5 => dealSetMask p cls data s
    | 6 => dealConfirm p cls s
    | 7 => dealAccept p cls data s
    | 8 => dealDecline p cls s
    | 9 => dealFreeze p cls s
    | 10 => dealRelease p cls s
    | 11 => dealMonitor p cls data s
    | 12 => dealTumbleAck p cls s
    | _ => refusedPlain .badObject s := by
  unfold dealFrame
  rw [frameCmd_frameOf, frameClass_frameOf, frameIndex_frameOf, frameData_frameOf] <;> rfl

theorem dealFrame_read : dealFrame p (frameOf 1 cls idx data) = dealRead p cls idx data :=
  funext (dealFrame_frameOf p cls idx data 1)

theorem dealFrame_write : dealFrame p (frameOf 2 cls idx data) = dealWrite p cls idx data :=
  funext (dealFrame_frameOf p cls idx data 2)

/-- A tally's part is where its index says (Table 2-3). -/
theorem tallyPart_low (t : Fin 6) : tallyPart (tallyIndex t 0).toNat = .low t := by decide +revert

theorem tallyPart_high (t : Fin 6) : tallyPart (tallyIndex t 1).toNat = .high t := by decide +revert

theorem tallyPart_flag (t : Fin 6) : tallyPart (tallyIndex t 2).toNat = .flag t := by decide +revert

/-- A WRITE of class TALLY goes to the part that its index names. -/
theorem dealWrite_tally : dealWrite p 2 idx data = dealWriteTally p idx.toNat data := rfl

theorem dealWrite_tallyLow (t : Fin 6) : dealWrite p 2 (tallyIndex t 0) data = dealTallyValue p t false data := by
  rw [dealWrite_tally, funext_iff]
  intro s
  rw [dealWriteTally, tallyPart_low]

theorem dealWrite_tallyHigh (t : Fin 6) : dealWrite p 2 (tallyIndex t 1) data = dealTallyValue p t true data := by
  rw [dealWrite_tally, funext_iff]
  intro s
  rw [dealWriteTally, tallyPart_high]

theorem dealWrite_tallyFlag (t : Fin 6) : dealWrite p 2 (tallyIndex t 2) data = dealOverflow p t data := by
  rw [dealWrite_tally, funext_iff]
  intro s
  rw [dealWriteTally, tallyPart_flag]

end

/-- A frame dealt with by a block as the routing deals with it is the word received. -/
theorem frameIn_eq_receive {p : Port} {w : Frame} {deal : State → Reply} {s : State} (h : dealFrame p w = deal) :
    frameIn p w deal s = receiveFrame p w s := by rw [receiveFrame, h]

/-- A frame command is the word that it spells, received on its port. -/
theorem exec_of_frame {c : Instr} {p : Port} {w : Frame} (s : State) (h : c.frame = some (p, w)) :
    exec c s = .next (receiveFrame p w s) := by
  have hnext {deal : State → Reply} (hd : dealFrame p w = deal) (he : exec c s = .next (frameIn p w deal s)) :
      exec c s = .next (receiveFrame p w s) := he.trans (congrArg Host.Outcome.next (frameIn_eq_receive hd))
  cases c with
  | nop _ cls idx data => cases h; exact hnext (funext (dealFrame_frameOf p cls idx data 0)) rfl
  | readTallyLow _ t data => cases h; exact hnext (dealFrame_read p _ _ _) rfl
  | readTallyHigh _ t data => cases h; exact hnext (dealFrame_read p _ _ _) rfl
  | writeProgramme _ data => cases h; exact hnext (dealFrame_write p _ _ _) rfl
  | writeOptions _ data => cases h; exact hnext (dealFrame_write p _ _ _) rfl
  | writeRunRequest _ data => cases h; exact hnext (dealFrame_write p _ _ _) rfl
  | cancel _ => cases h; exact hnext (dealFrame_write p _ _ _) rfl
  | writePhase _ data => cases h; exact hnext (dealFrame_write p _ _ _) rfl
  | writeDeficit _ data => cases h; exact hnext (dealFrame_write p _ _ _) rfl
  | writeTallyValue _ t high data =>
    cases h
    cases high
    · exact hnext ((dealFrame_write p _ _ _).trans (dealWrite_tallyLow p data t)) rfl
    · exact hnext ((dealFrame_write p _ _ _).trans (dealWrite_tallyHigh p data t)) rfl
  | clearOverflowFlag _ t data => cases h; exact hnext ((dealFrame_write p _ _ _).trans (dealWrite_tallyFlag p data t)) rfl
  | writeTallyCtl _ idx data => cases h; exact hnext (dealFrame_write p _ _ _) rfl
  | writeProfile _ idx data => cases h; exact hnext (dealFrame_write p _ _ _) rfl
  | writeTempTable _ idx data => cases h; exact hnext (dealFrame_write p _ _ _) rfl
  | writeConfig _ idx data => cases h; exact hnext (dealFrame_write p _ _ _) rfl
  | writeAlertLevel _ idx data => cases h; exact hnext (dealFrame_write p _ _ _) rfl
  | writeReadOnlyObject _ cls idx data => cases h; exact hnext (dealFrame_write p _ _ _) rfl
  | undefinedCommand _ code cls idx data => cases h; exact hnext rfl rfl
  | checkpoint _ cls idx data => cases h; exact hnext (funext (dealFrame_frameOf p cls idx data 3)) rfl
  | takeAlert _ cls idx data => cases h; exact hnext (funext (dealFrame_frameOf p cls idx data 4)) rfl
  | setMask _ cls idx data => cases h; exact hnext (funext (dealFrame_frameOf p cls idx data 5)) rfl
  | confirm _ cls idx data => cases h; exact hnext (funext (dealFrame_frameOf p cls idx data 6)) rfl
  | accept _ cls idx data => cases h; exact hnext (funext (dealFrame_frameOf p cls idx data 7)) rfl
  | decline _ cls idx data => cases h; exact hnext (funext (dealFrame_frameOf p cls idx data 8)) rfl
  | freeze _ cls idx data => cases h; exact hnext (funext (dealFrame_frameOf p cls idx data 9)) rfl
  | release _ cls idx data => cases h; exact hnext (funext (dealFrame_frameOf p cls idx data 10)) rfl
  | monitor _ cls idx data => cases h; exact hnext (funext (dealFrame_frameOf p cls idx data 11)) rfl
  | tumbleAck _ cls idx data => cases h; exact hnext (funext (dealFrame_frameOf p cls idx data 12)) rfl
  | allOnesFrameSynced _ => cases h; rfl
  | frameWhileDesynced _ _ => cases h; rfl
  | _ => exact nomatch h

/-- Settles O5: both sides are the word received. -/
theorem frameCommandsActAsTheirWords : Obligations.FrameCommandsActAsTheirWords :=
  fun _ _ _ s h => exec_of_frame s h

end Sys2Proof.Machine
end

section
/-! PROOFS. What the shared operations keep of the invariants on the record, the tallies, the queue, the alerts and the outage watch
(Safety.lean): one lemma per operation, each with all five. -/

set_option Elab.async false

namespace Sys2Proof.Machine

/-- From `s` to `t` five invariants are kept, each by itself. -/
structure Safe (s t : State) : Prop where
  record : recordInRange s → recordInRange t
  tallies : talliesIn24Bits s → talliesIn24Bits t
  queue : oneRequestPerSource s → oneRequestPerSource t
  alerts : alertsSound s → alertsSound t
  watch : watchSound s → watchSound t

namespace Safe

theorem refl (s : State) : Safe s s := ⟨id, id, id, id, id⟩

theorem trans {s t u : State} (h : Safe s t) (k : Safe t u) : Safe s u :=
  ⟨k.record ∘ h.record, k.tallies ∘ h.tallies, k.queue ∘ h.queue, k.alerts ∘ h.alerts, k.watch ∘ h.watch⟩

/-- As `trans`, with the later of the two first. -/
theorem after {s t u : State} (k : Safe t u) (h : Safe s t) : Safe s u := h.trans k

theorem ite {s a b : State} {c : Prop} [Decidable c] (h : c → Safe s a) (k : ¬c → Safe s b) : Safe s (if c then a else b) := by
  split
  · exact h ‹_›
  · exact k ‹_›

variable {s : State}

/-! ### Updates of one part of the state -/

/-- New alerts. -/
theorem of_alerts {a b : Alerts} (hp : s.panelAlerts.inRange → a.inRange) (hd : s.driveAlerts.inRange → b.inRange)
    (ht : s.panelAlerts.has Alert.tumbleDue.num = false → a.has Alert.tumbleDue.num = false) :
    Safe s { s with panelAlerts := a, driveAlerts := b } :=
  ⟨id, id, id, fun ⟨h1, h2, h3⟩ => ⟨hp h1, hd h2, ht h3⟩, id⟩

/-- New record fields. -/
theorem of_lpr {l : Lpr} (hd : recordInRange s → l.deficit ≤ 1000) (hc : recordInRange s → l.phaseClock ≤ 65535) :
    Safe s { s with lpr := l } :=
  ⟨fun h => ⟨hd h, hc h, h.2.2⟩, id, id, id, id⟩

/-- A new scheduler state. -/
theorem of_sched {c : Sched} (hp : s.sched.pulsesDone ≤ 255 → c.pulsesDone ≤ 255) (hm : s.sched.missed ≤ 3 → c.missed ≤ 3) :
    Safe s { s with sched := c } :=
  ⟨fun ⟨h1, h2, h3, h4, h⟩ => ⟨h1, h2, hp h3, hm h4, h⟩, id, id, id, id⟩

/-- New tallies. -/
theorem of_tallies {ts : Vector Tally 6} (h : ∀ i : Fin 6, s.tallies[i].value < 16777216 → ts[i].value < 16777216) :
    Safe s { s with tallies := ts } :=
  ⟨id, fun ⟨h1, h2⟩ => ⟨fun i => h i (h1 i), h2⟩, id, id, id⟩

/-- A hand-over state that offers nothing new. -/
theorem of_handover {h : HandOver} (ho : h.state.offering = true → s.handover.state.offering = true) :
    Safe s { s with handover := h } :=
  ⟨id, fun ⟨h1, h2, h3⟩ => ⟨h1, h2, fun h => h3 (ho h)⟩, id, id, id⟩

/-- A new outage record. -/
theorem of_outage {o : Outage} (hl : s.outage.log.length ≤ 24 → o.log.length ≤ 24)
    (hm : s.outage.summary.inRange → o.summary.inRange) : Safe s { s with outage := o } :=
  ⟨id, id, id, id, fun ⟨h1, h2, h⟩ => ⟨hl h1, hm h2, h⟩⟩

/-- A new sequencer that stays in its state and keeps its flush. -/
theorem of_seq {q : Sequencer} (hp : s.seq.pace ≤ 3 → q.pace ≤ 3) (hq : s.seq.quiet ≤ 3 → q.quiet ≤ 3)
    (hs : q.state = s.seq.state) (hf : q.flushCopy = s.seq.flushCopy) : Safe s { s with seq := q } :=
  ⟨id, id, id, id, fun ⟨h1, h2, h3, h4, h5, h6, h7⟩ =>
    ⟨h1, h2, h3, hp h4, hq h5, (by rw [hs, hf]; exact h6), fun m hm => h7 m (hf ▸ hm)⟩⟩

/-- A new engine whose snapshots are those of before, and whose queue still holds one request of each source. -/
theorem of_engine {e : Engine} (hs : ∀ P, s.snapshotsHave P → (∀ r ∈ e.queue, Request.snapHas P r) ∧ e.work.snapHas P)
    (hq : oneRequestPerSource s → oneRequestPerSource { s with engine := e }) : Safe s { s with engine := e } :=
  ⟨fun ⟨h1, h2, h3, h4, h5, h6⟩ => ⟨h1, h2, h3, h4, ⟨(hs _ h5).1, (hs _ h5).2, h5.2.2⟩, h6⟩,
   fun ⟨h1, h2, h3⟩ => ⟨h1, ⟨(hs _ h2).1, (hs _ h2).2, h2.2.2⟩, h3⟩, hq, id, id⟩

/-- A new engine that keeps its queue or empties it, and keeps its work or drops it. -/
theorem of_engine_drops {e : Engine} (hq : e.queue = s.engine.queue ∨ e.queue = [])
    (hw : e.work = s.engine.work ∨ e.work = .idle) : Safe s { s with engine := e } := by
  refine of_engine (fun P h => ⟨?_, ?_⟩) fun ⟨h1, h2⟩ => ⟨fun o => ?_, fun p => ?_⟩
  · rcases hq with hq | hq <;> rw [hq]
    · exact h.1
    · exact fun r hr => nomatch hr
  · rcases hw with hw | hw <;> rw [hw]
    · exact h.2.1
    · trivial
  · change e.queue.countP _ ≤ 1
    rcases hq with hq | hq <;> rw [hq]
    · exact h1 o
    · exact Nat.zero_le _
  · change e.queue.countP _ + (e.work.isSettings p).toNat ≤ 1
    have h3 := h2 p
    have hle : e.queue.countP (Request.isSettings p) ≤ s.engine.queue.countP (Request.isSettings p) := by
      rcases hq with hq | hq <;> rw [hq]
      exact Nat.zero_le _
    have hlw : (e.work.isSettings p).toNat ≤ (s.engine.work.isSettings p).toNat := by
      rcases hw with hw | hw <;> rw [hw]
      exact Nat.zero_le _
    omega

/-- A slot rewritten with a body that has what the snapshots of the part have. -/
theorem of_journal {j : Vector Slot 16}
    (h : ∀ P, (P = Snapshot.inRange ∨ P = fun b => ∀ i : Fin 6, b.tallies[i] < 16777216) → s.snapshotsHave P →
      ∀ i : Fin 16, P j[i].body) : Safe s { s with journal := j } :=
  ⟨fun ⟨h1, h2, h3, h4, h5, h6⟩ => ⟨h1, h2, h3, h4, ⟨h5.1, h5.2.1, h _ (.inl rfl) h5, h5.2.2.2⟩, h6⟩,
   fun ⟨h1, h2, h3⟩ => ⟨h1, ⟨h2.1, h2.2.1, h _ (.inr rfl) h2, h2.2.2.2⟩, h3⟩, id, id, id⟩

end Safe

/-! ### Alerts -/

variable (s : State)

/-- No other source has the number of TUMBLE_DUE. -/
theorem Alert.tumbleDue_num_ne {x : Alert} (h : x ≠ .tumbleDue) : (Alert.tumbleDue.num == x.num) = false := by
  cases x with
  | tumbleDue => exact absurd rfl h
  | _ => rfl

theorem raiseBoth_safe {x : Alert} (h : x ≠ .tumbleDue) : Safe s (raiseBoth x s) := by
  refine Safe.of_alerts id id fun ht => ?_
  rw [Alerts.has_add, ht, Alert.tumbleDue_num_ne h]
  rfl

theorem raiseOn_safe {x : Alert} {p : Port} (h : p = .panel → x ≠ .tumbleDue) : Safe s (raiseOn x p s) := by
  cases p with
  | drive => exact Safe.of_alerts (a := s.panelAlerts) id id id
  | panel =>
    refine Safe.of_alerts (b := s.driveAlerts) id id fun ht => ?_
    rw [Alerts.has_add, Alert.tumbleDue_num_ne (h rfl), Bool.or_false]
    exact ht

/-! ### Requests -/

theorem snapHas_absorb {P : Snapshot → Prop} {o : Origin} {snap : Snapshot} {r : Request} (hr : r.snapHas P) (hs : P snap) :
    (r.absorb o snap).snapHas P := by
  unfold Request.absorb
  split
  · exact hs
  · exact hr

/-- A request that has absorbed a snapshot is of the source it was. -/
theorem isOrigin_absorb_any (o o' : Origin) (snap : Snapshot) (r : Request) :
    (r.absorb o snap).isOrigin o' = r.isOrigin o' := by
  unfold Request.absorb
  split
  · rename_i h
    cases r with
    | journal o'' b => simp only [Request.isOrigin, beq_iff_eq] at h; rw [h]; rfl
    | settings p it w => exact nomatch h
  · rfl

theorem isSettings_absorb (o : Origin) (p : Port) (snap : Snapshot) (r : Request) :
    (r.absorb o snap).isSettings p = r.isSettings p := by
  unfold Request.absorb
  split
  · rename_i h
    cases r with
    | journal o'' b => rfl
    | settings p it w => exact nomatch h
  · rfl

/-- The requests of each source are as many after an absorption. -/
theorem countP_absorb (o : Origin) (snap : Snapshot) (q : List Request) :
    (∀ o', (q.map (Request.absorb o snap)).countP (Request.isOrigin o') = q.countP (Request.isOrigin o'))
    ∧ ∀ p, (q.map (Request.absorb o snap)).countP (Request.isSettings p) = q.countP (Request.isSettings p) := by
  simp only [List.countP_map]
  exact ⟨fun o' => congrArg (q.countP ·) (funext fun r => isOrigin_absorb_any o o' snap r),
    fun p => congrArg (q.countP ·) (funext fun r => isSettings_absorb o p snap r)⟩

/-- A queue in which no request of `o` waited, with one of `o` put anywhere. -/
theorem countP_insert {o : Origin} {snap : Snapshot} {q q' : List Request} (hq : q.any (Request.isOrigin o) = false)
    (hp : q'.Perm (.journal o snap :: q)) :
    (∀ o', q.countP (Request.isOrigin o') ≤ 1 → q'.countP (Request.isOrigin o') ≤ 1)
    ∧ ∀ p, q'.countP (Request.isSettings p) = q.countP (Request.isSettings p) := by
  refine ⟨fun o' h => ?_, fun p => ?_⟩
  · rw [hp.countP_eq, List.countP_cons]
    by_cases ho : o = o'
    · subst ho
      have h0 : q.countP (Request.isOrigin o) = 0 := by
        rw [List.countP_eq_zero]
        intro r hr hro
        exact Bool.false_ne_true (hq ▸ List.any_eq_true.mpr ⟨r, hr, hro⟩)
      simp [h0, Request.isOrigin]
    · simpa [Request.isOrigin, ho] using h
  · rw [hp.countP_eq, List.countP_cons]
    rfl

/-- An operation on the queue by which a request of `o` comes to wait is safe. -/
theorem Safe.of_request {o : Origin} {q : List Request}
    (h : q = s.engine.queue.map (Request.absorb o s.snapshot)
      ∨ s.engine.queue.any (Request.isOrigin o) = false ∧ q.Perm (.journal o s.snapshot :: s.engine.queue)) :
    Safe s { s with engine.queue := q } := by
  have hsnap {P : Snapshot → Prop} (hs : P s.snapshot) (hP : s.snapshotsHave P) : ∀ r ∈ q, Request.snapHas P r := by
    rcases h with rfl | ⟨-, hp⟩
    · intro r hr
      obtain ⟨r', hr', rfl⟩ := List.mem_map.mp hr
      exact snapHas_absorb (hP.1 r' hr') hs
    · intro r hr
      rcases List.mem_cons.mp (hp.mem_iff.mp hr) with rfl | hr
      · exact hs
      · exact hP.1 r hr
  refine ⟨fun ⟨h1, h2, h3, h4, h5, h6⟩ => ⟨h1, h2, h3, h4, ⟨hsnap ⟨h1, h2, h3, h4⟩ h5, h5.2⟩, h6⟩,
    fun ⟨h1, h2, h3⟩ => ⟨h1, ⟨hsnap (fun i => ?_) h2, h2.2⟩, h3⟩, fun ⟨h1, h2⟩ => ?_, id, id⟩
  · simpa [State.snapshot] using h1 i
  · rcases h with rfl | ⟨hany, hp⟩
    · obtain ⟨ho, hset⟩ := countP_absorb o s.snapshot s.engine.queue
      exact ⟨fun o' => (ho o').trans_le (h1 o'), fun p => (congrArg (· + _) (hset p)).trans_le (h2 p)⟩
    · obtain ⟨ho, hset⟩ := countP_insert hany hp
      exact ⟨fun o' => ho o' (h1 o'), fun p => (congrArg (· + _) (hset p)).trans_le (h2 p)⟩

theorem request_safe (o : Origin) : Safe s (request o s) :=
  Safe.ite (fun _ => Safe.of_request s (.inl rfl))
    fun h => Safe.of_request s (.inr ⟨Bool.eq_false_iff.mpr h, List.perm_append_singleton _ _⟩)

theorem requestLastGasp_safe : Safe s (requestLastGasp s) :=
  Safe.ite (fun _ => Safe.of_request s (.inl rfl))
    fun h => Safe.of_request s (.inr ⟨Bool.eq_false_iff.mpr h, List.Perm.refl _⟩)

theorem requestPhase_safe : Safe s (requestPhase s) := Safe.ite (fun _ => request_safe s _) fun _ => Safe.refl s

/-- A settings request of a port that has none pending. -/
theorem requestSettings_safe {p : Port} (it : Item) (w : Word) (h : s.settingsPending p = false) :
    Safe s (requestSettings p it w s) := by
  refine Safe.of_engine (fun P hP => ⟨fun r hr => ?_, hP.2.1⟩) fun ⟨h1, h2⟩ => ⟨fun o => ?_, fun p' => ?_⟩
  · rcases List.mem_append.mp hr with hr | hr
    · exact hP.1 r hr
    · obtain rfl := List.mem_singleton.mp hr
      trivial
  · change (s.engine.queue ++ [Request.settings p it w]).countP _ ≤ 1
    rw [List.countP_append]
    exact h1 o
  · change (s.engine.queue ++ [Request.settings p it w]).countP _ + _ ≤ 1
    rw [List.countP_append]
    have h3 := h2 p'
    simp only [State.settingsPending, Bool.or_eq_false_iff] at h
    by_cases hp : p = p'
    · subst hp
      have h0 : s.engine.queue.countP (Request.isSettings p) = 0 := by
        rw [List.countP_eq_zero]
        intro r hr hrp
        exact Bool.false_ne_true (h.1 ▸ List.any_eq_true.mpr ⟨r, hr, hrp⟩)
      simp [h0, h.2, Request.isSettings]
    · simpa [Request.isSettings, hp] using h3

/-! ### The engine takes work -/

/-- The head of the queue goes to the engine. -/
theorem Safe.of_head {r : Request} {rest : List Request} {e : Engine} (hq : s.engine.queue = r :: rest) (hr : e.queue = rest)
    (hidle : s.engine.work = .idle) (hsnap : ∀ P, r.snapHas P → e.work.snapHas P)
    (hset : ∀ p, e.work.isSettings p = r.isSettings p) : Safe s { s with engine := e } := by
  refine Safe.of_engine (fun P hP => ⟨fun r' h' => hP.1 r' ?_, hsnap P (hP.1 r ?_)⟩) fun ⟨h1, h2⟩ => ⟨fun o => ?_, fun p => ?_⟩
  · rw [hr] at h'; rw [hq]; exact List.mem_cons_of_mem _ h'
  · rw [hq]; exact List.mem_cons_self
  · have h3 := h1 o
    rw [hq, List.countP_cons] at h3
    change e.queue.countP _ ≤ 1
    rw [hr]
    omega
  · have h3 := h2 p
    rw [hq, List.countP_cons, hidle] at h3
    change e.queue.countP _ + (e.work.isSettings p).toNat ≤ 1
    rw [hr, hset]
    cases hb : r.isSettings p <;> simp_all [Work.isSettings]

theorem startWork_safe (hidle : s.engine.work = .idle) : Safe s (startWork s) := by
  have hw (e : Engine) (hq : e.queue = s.engine.queue) (hP : ∀ P, e.work.snapHas P) (hp : ∀ p, e.work.isSettings p = false) :
      Safe s { s with engine := e } :=
    Safe.of_engine (fun P h => ⟨hq ▸ h.1, hP P⟩) fun ⟨h1, h2⟩ =>
      ⟨fun o => (congrArg (List.countP _) hq).trans_le (h1 o), fun p => by
        change e.queue.countP _ + (e.work.isSettings p).toNat ≤ 1
        rw [hq, hp]
        exact (Nat.le_add_right _ _).trans (h2 p)⟩
  unfold startWork
  split
  · exact hw _ rfl (fun _ => trivial) fun _ => rfl
  · split
    · exact hw _ rfl (fun _ => trivial) fun _ => rfl
    · split
      · exact Safe.of_head s ‹_› rfl hidle (fun _ _ => trivial) fun _ => rfl
      · rename_i o snap rest pos hq hpos
        have hhead : Safe s { s with engine := { s.engine with
            work := .entry pos s.engine.nextSeq o snap, queue := rest, curSeq := some s.engine.nextSeq
            writePos := some (pos + 1) } } := Safe.of_head s hq rfl hidle (fun _ h => h) fun _ => rfl
        exact hhead.trans (Safe.of_outage id id)
      · exact Safe.refl s

theorem serve_safe : Safe s (serve s) := by
  refine Safe.ite (fun h => startWork_safe s ?_) fun _ => Safe.refl s
  simp only [Bool.and_eq_true, beq_iff_eq] at h
  exact h.1.2

/-! ### Occurrences -/

theorem Tally.plus_lt {t : Tally} {n : Nat} : (t.plus n).1.value < 16777216 := by
  unfold Tally.plus
  split
  · exact Nat.mod_lt _ (by decide)
  · rename_i h
    exact Nat.lt_of_le_of_lt (Nat.not_lt.mp h) (by decide)

theorem Tally.deliver_lt {t : Tally} {i : Fin 6} {src : Source} {inc : Nat} (h : t.value < 16777216) :
    (t.deliver i src inc).1.value < 16777216 := by
  unfold Tally.deliver
  split
  · unfold Tally.count
    split
    · exact Tally.plus_lt
    · dsimp only
      split
      · exact Tally.plus_lt
      · exact h
  · exact h

theorem notifyWrap_safe : Safe s (notifyWrap s) := by
  have h : Safe s (raiseBoth .tallyTarget { s with freeze.notify := true }) :=
    Safe.trans (t := { s with freeze.notify := true }) ⟨id, id, id, id, id⟩ (raiseBoth_safe _ nofun)
  exact Safe.ite (fun _ => h.trans (request_safe _ _)) fun _ => h

theorem deliver_safe (src : Source) (inc : Nat) : Safe s (deliver src inc s) := by
  have h : Safe s { s with tallies := deliverAll src inc s.tallies } :=
    Safe.of_tallies fun i hi => by simpa [deliverAll] using Tally.deliver_lt hi
  exact Safe.ite (fun _ => Safe.refl s) fun _ => Safe.ite (fun _ => h.trans (notifyWrap_safe _)) fun _ => h

/-! ### Phase changes and the scheduler -/

/-- A tally replaced by one whose value is in range. -/
theorem Safe.of_tally {t : Fin 6} {x : Tally} (h : s.tallies[t].value < 16777216 → x.value < 16777216) :
    Safe s { s with tallies := s.tallies.set t x } := by
  refine Safe.of_tallies fun i hi => ?_
  by_cases e : t = i
  · subst e; simpa using h hi
  · have : (t : Nat) ≠ i := fun h => e (Fin.ext h)
    simpa [this] using hi

theorem restoreTarget_safe : Safe s (restoreTarget s) := by
  unfold restoreTarget
  split
  · exact Safe.refl s
  · rename_i t _
    have h : Safe s { s with tallies := s.tallies.set t { s.tallies[t] with ctl := s.settings.controls[t], edgeMem := false } } :=
      Safe.of_tally s id
    exact ⟨h.record, h.tallies, h.queue, h.alerts, h.watch⟩

theorem endSched_safe (r : EndReason) : Safe s (endSched r s) := Safe.of_sched id id

theorem endByChange_safe (r : EndReason) : Safe s (endByChange r s) :=
  Safe.ite (fun _ => (endSched_safe s r).trans (raiseBoth_safe _ nofun)) fun _ => Safe.refl s

theorem putPhase_safe (ph : Phase) {n : Nat} (h : recordInRange s → n ≤ 65535) : Safe s (putPhase ph n s) :=
  Safe.of_lpr And.left h

theorem changeToDone_safe (r : EndReason) : Safe s (changeToDone r s) := by
  have h : Safe s (restoreTarget { putPhase .done 0 s with lpr.runReq := .stopped }) :=
    (restoreTarget_safe _).after (Safe.of_lpr And.left fun _ => Nat.zero_le _)
  exact Safe.trans (Safe.ite (fun _ => h.trans (endByChange_safe _ _)) fun _ => h) (requestPhase_safe _)

theorem writeDone_safe (r : EndReason) : Safe s (writeDone r s) :=
  Safe.ite (fun _ => Safe.refl s) fun _ => changeToDone_safe s r

theorem endOwn_safe (r : EndReason) : Safe s (endOwn r s) :=
  ((endSched_safe s r).trans (writeDone_safe _ _)).trans (raiseBoth_safe _ nofun)

theorem windowTest_safe : Safe s (windowTest s) := Safe.ite (fun _ => endOwn_safe s _) fun _ => Safe.refl s

theorem enterRest_safe (ms : Nat) : Safe s (enterRest ms s) := (windowTest_safe _).after (Safe.of_sched id id)

theorem freshStart_safe : Safe s (freshStart s) := by
  have h (c : Sched) (hp : c.pulsesDone = 0) (hm : c.missed = 0) : Safe s { s with sched := c } :=
    Safe.of_sched (fun _ => hp ▸ Nat.zero_le _) fun _ => hm ▸ Nat.zero_le _
  exact Safe.ite (fun _ => (endOwn_safe _ _).after (h _ rfl rfl)) fun _ => (enterRest_safe _ _).after (h _ rfl rfl)

theorem changePhase_safe (ph : Phase) : Safe s (changePhase ph s) := by
  have h1 : Safe s (putPhase ph 0 s) := putPhase_safe s ph fun _ => Nat.zero_le _
  have h2 : Safe s (if s.lpr.phase = .anticrease then endByChange .phase (putPhase ph 0 s) else putPhase ph 0 s) :=
    Safe.ite (fun _ => h1.trans (endByChange_safe _ _)) fun _ => h1
  exact Safe.ite (fun _ => changeToDone_safe s _) fun _ =>
    (Safe.ite (fun _ => h2.trans (freshStart_safe _)) fun _ => h2).trans (requestPhase_safe _)

theorem enterDue_safe : Safe s (enterDue s) := (raiseOn_safe (p := .drive) _ nofun).after (Safe.of_sched id id)

theorem enterRecovery_safe (n : Nat) : Safe s (enterRecovery n s) := (raiseOn_safe (p := .drive) _ nofun).after (Safe.of_sched id id)

theorem planStart_safe (pl : Plan) : Safe s (planStart pl s) := by
  have h (c : Sched) (hp : c.pulsesDone = s.sched.pulsesDone) (hm : c.missed = 0) : Safe s { s with sched := c } :=
    Safe.of_sched (fun h => hp ▸ h) fun _ => hm ▸ Nat.zero_le _
  exact Safe.ite (fun _ => (enterRecovery_safe _ _).after (h _ rfl rfl)) fun _ => (enterRest_safe _ _).after (h _ rfl rfl)

theorem idleSched_safe : Safe s (idleSched s) := Safe.ite (fun _ => Safe.of_sched id id) fun _ => Safe.refl s

theorem suspendSched_safe : Safe s (suspendSched s) :=
  Safe.ite (fun _ => (enterRest_safe _ _).trans (serve_safe _)) fun _ => Safe.refl s

/-! ### The outage log -/

theorem offerItem_length (k : ItemKind) (t : Nat) (a : Option Nat) {l : List LogItem} (h : l.length ≤ 24) :
    (offerItem k t a l).1.length ≤ 24 := by
  unfold offerItem
  split
  · simp; omega
  · split
    · split
      · simp; omega
      · exact h
    · exact h

theorem appendItem_safe (k : ItemKind) (a : Option Nat) : Safe s (appendItem k a s) := by
  refine Safe.of_outage (fun h => offerItem_length k _ a h) fun ⟨h1, h2, h3, h4, h5⟩ => ⟨h1, h2, h3, ?_, h5⟩
  dsimp only
  split
  · exact Nat.min_le_left _ _
  · exact h4

end Sys2Proof.Machine
end

section
/-! PROOFS. What the hand-over, sensing, the outage watch, the supervisor and the store engine keep of the five invariants. -/

set_option Elab.async false

namespace Sys2Proof.Machine

/-! ### Settings at use (R186) -/

/-- A numeric item at use lies in its range. -/
theorem Settings.useNat_num {st : Settings} {it : Item} {lo hi : Nat} (h : itemRange it = .num lo hi) (hlh : lo ≤ hi) :
    lo ≤ st.useNat it ∧ st.useNat it ≤ hi := by
  simp only [Settings.useNat, Settings.use, useWord, h]
  omega

theorem Settings.one_le_secPerUnit (st : Settings) (p : Fin 16) : 1 ≤ (st.prof p).secPerUnit :=
  (Settings.useNat_num (lo := 1) (hi := 60) (it := .profile p 5) rfl (by decide)).1

theorem Settings.sixty_le_hCap (st : Settings) (p : Fin 16) : 60 ≤ (st.prof p).hCap :=
  (Settings.useNat_num (lo := 60) (hi := 7200) (it := .profile p 8) rfl (by decide)).1

/-! ### Plans and publication -/

variable (s : State)

namespace Safe

variable {s}

/-- The hand-over closes and the kept inputs go. -/
theorem of_closed {h : HandOver} (ho : h.state.offering = false) : Safe s { s with kept := none, handover := h } :=
  ⟨fun ⟨h1, h2, h3, h4, h5, h6⟩ => ⟨h1, h2, h3, h4, ⟨h5.1, h5.2.1, h5.2.2.1, nofun⟩, h6⟩,
   fun ⟨h1, h2, _⟩ => ⟨h1, ⟨h2.1, h2.2.1, h2.2.2.1, nofun⟩, fun h => Bool.noConfusion (ho.symm.trans h)⟩, id, id, id⟩

/-- A new plan: in range, and with heat of a second at least while it is on offer. -/
theorem of_plan {p : Plan} (hr : recordInRange s → p.inRange)
    (ht : talliesIn24Bits s → s.handover.state.offering = true → p.target = .heat → 1 ≤ p.heatSec) :
    Safe s { s with plan := some p } :=
  ⟨fun h => ⟨h.1, h.2.1, h.2.2.1, h.2.2.2.1, h.2.2.2.2.1, fun _ hq => Option.some.inj hq ▸ hr h⟩,
   fun h => ⟨h.1, h.2.1, fun ho => ⟨(h.2.2 ho).1, fun _ hq hh => Option.some.inj hq ▸ ht h ho (Option.some.inj hq ▸ hh)⟩⟩,
   id, id, id⟩

/-- Inputs are kept, from the journal. -/
theorem of_kept {k : Kept} (hk : ∀ P, (∀ i : Fin 16, P s.journal[i].body) → k.snapHas P)
    (ho : s.handover.state.offering = false) : Safe s { s with kept := some k } :=
  ⟨fun ⟨h1, h2, h3, h4, h5, h6⟩ =>
      ⟨h1, h2, h3, h4, ⟨h5.1, h5.2.1, h5.2.2.1, fun _ h => Option.some.inj h ▸ hk _ h5.2.2.1⟩, h6⟩,
   fun ⟨h1, h2, _⟩ =>
      ⟨h1, ⟨h2.1, h2.2.1, h2.2.2.1, fun _ h => Option.some.inj h ▸ hk _ h2.2.2.1⟩, fun h => Bool.noConfusion (ho.symm.trans h)⟩,
   id, id, id⟩

/-- An offer is made: of a plan from kept inputs with an entry to resume. -/
theorem of_offer {h : HandOver} {k : Kept} {e : Entry} {p : Plan} (hk : s.kept = some k) (he : k.entry = some e)
    (hr : e.body.resumable) (hp : s.plan = some p) (hh : p.target = .heat → 1 ≤ p.heatSec) : Safe s { s with handover := h } :=
  ⟨id, fun ⟨h1, h2, _⟩ => ⟨h1, h2, fun _ => ⟨⟨k, e, hk, he, hr⟩, fun q hq => by
    have heq : q = p := Option.some.inj (hq.symm.trans hp)
    rw [heq]
    exact hh⟩⟩, id, id, id⟩

end Safe

theorem publish_safe {p : Plan} (hr : recordInRange s → p.inRange)
    (ht : talliesIn24Bits s → s.handover.state.offering = true → p.target = .heat → 1 ≤ p.heatSec) : Safe s (publish p s) :=
  (Safe.of_plan hr ht).trans (raiseBoth_safe _ nofun)

theorem republish_safe {p : Plan} (hr : recordInRange s → p.inRange)
    (ht : talliesIn24Bits s → s.handover.state.offering = true → p.target = .heat → 1 ≤ p.heatSec) : Safe s (republish p s) :=
  Safe.ite (fun _ => publish_safe s hr ht) fun _ => (publish_safe s hr ht).trans (raiseBoth_safe _ nofun)

/-- A plan of kept inputs in range is in range. -/
theorem evalIn_plan_inRange {k : Kept} (c : Bool) (n : Nat) (h : k.snapHas Snapshot.inRange) :
    ((s.evalIn k c).plan n).inRange := EvalIn.plan_inRange _ _ h

/-- A heat phase planned for an entry to resume lasts a second at least, whatever the settings. -/
theorem evalIn_plan_heatSec {k : Kept} {e : Entry} (c : Bool) (n : Nat) (he : k.entry = some e) (hr : e.body.resumable)
    (ht : ((s.evalIn k c).plan n).target = .heat) : 1 ≤ ((s.evalIn k c).plan n).heatSec :=
  (EvalIn.plan_heatSec (i := s.evalIn k c) he hr (s.settings.one_le_secPerUnit _) (s.settings.sixty_le_hCap _) ht).1

/-- The plan of a recomputation is published. -/
theorem republish_recomputed_safe {k : Kept} (c : Bool) (hk : s.kept = some k) : Safe s (republish (s.recomputed k c) s) := by
  refine republish_safe s (fun h => evalIn_plan_inRange s c _ (h.2.2.2.2.1.2.2.2 k hk)) fun h ho => ?_
  obtain ⟨⟨k', e, hk', he, hr⟩, -⟩ := h.2.2 ho
  obtain rfl : k = k' := Option.some.inj (hk.symm.trans hk')
  exact evalIn_plan_heatSec s c _ he hr

theorem republish_handover (p : Plan) : (republish p s).handover = s.handover := by
  unfold republish
  dsimp only
  split <;> rfl

/-! ### The close and recomputations -/

theorem closeChain_safe : Safe s (closeChain s) :=
  Safe.trans (t := { s with outage := { s.outage with chainOpen := false, fresh := false, keyFromScan := false } })
    (Safe.of_outage id id)
    (Safe.trans (t := { s with
        outage := { s.outage with chainOpen := false, fresh := false, keyFromScan := false }
        seq := { s.seq with pace := 0, quiet := 0 } })
      (Safe.of_seq (fun _ => Nat.zero_le _) (fun _ => Nat.zero_le _) rfl rfl) ⟨id, id, id, id, id⟩)

theorem mainsDips_safe : Safe s (mainsDips s) := Safe.ite (fun _ => deliver_safe s _ _) fun _ => Safe.refl s

theorem close_safe : Safe s (close s) := by
  have h : Safe s (request .resume (mainsDips (closeChain { s with freeze.ret := false }))) :=
    (((request_safe _ _).after (mainsDips_safe _)).after (closeChain_safe _)).after ⟨id, id, id, id, id⟩
  exact h.trans (Safe.of_closed rfl)

theorem carryEnd_safe : Safe s (carryEnd s) := (writeDone_safe s _).trans (close_safe _)

theorem recomputeAuto_safe (ho : s.handover.state.offering = true) : Safe s (recomputeAuto s) := by
  unfold recomputeAuto
  split
  · exact Safe.refl s
  · rename_i k hk
    have h := republish_recomputed_safe s false hk
    dsimp only
    split
    · exact h.trans (Safe.of_handover fun _ => by rw [republish_handover]; exact ho)
    · exact h.trans (carryEnd_safe _)
    · exact h
    · exact h

theorem recomputeConfirm_safe (ho : s.handover.state.offering = true) : Safe s (recomputeConfirm s).1 := by
  unfold recomputeConfirm
  split
  · exact Safe.refl s
  · rename_i k hk
    have h := republish_recomputed_safe s true hk
    have hc := h.trans (Safe.of_handover (h := { (republish (s.recomputed k true) s).handover with state := .confirmed })
      fun _ => by rw [republish_handover]; exact ho)
    dsimp only
    split
    · exact hc
    · exact hc
    · exact h.trans (carryEnd_safe _)
    · exact h

theorem newLogItem_safe (k : ItemKind) : Safe s (newLogItem k s) := by
  unfold newLogItem
  split
  · exact Safe.ite (fun _ => Safe.of_handover id) fun _ => Safe.refl s
  · rename_i h
    exact recomputeAuto_safe s (by rw [h]; rfl)
  · rename_i h
    exact Safe.ite (fun _ => (raiseBoth_safe (x := .planChanged) _ nofun).after
      (Safe.of_handover (h := { s.handover with state := .offeredHold }) fun _ => by rw [h]; rfl)) fun _ => Safe.refl s
  · exact Safe.refl s
  · exact Safe.refl s

theorem senseItem_safe (k : ItemKind) (a : Option Nat) : Safe s (senseItem k a s) :=
  (appendItem_safe s k a).trans (newLogItem_safe _ k)

/-! ### The build and the end of an evaluation -/

/-- The entry's snapshot is one of the journal's. -/
def Entry.fromJournal (j : Vector Slot 16) (e : Option Entry) : Prop :=
  ∀ P : Snapshot → Prop, (∀ i : Fin 16, P j[i].body) → ∀ x, e = some x → P x.body

theorem newestComplete_fromJournal (j : Vector Slot 16) : Entry.fromJournal j (newestComplete j) := by
  intro P h x hx
  obtain ⟨i, -, rfl⟩ := Option.map_eq_some_iff.mp hx
  exact h i

theorem build_safe {e : Option Entry} (he : Entry.fromJournal s.journal e) : Safe s (build e s) := by
  refine ⟨fun ⟨h1, h2, h3, h4, h5, h6⟩ => ?_, fun ⟨h1, h2, h3⟩ => ⟨fun i => ?_, h2, h3⟩, id, id, id⟩
  · have hb := he Snapshot.inRange h5.2.2.1
    cases e with
    | none => exact ⟨Nat.zero_le _, Nat.zero_le _, Nat.zero_le _, Nat.zero_le _, h5, h6⟩
    | some x =>
      obtain ⟨b1, b2, b3, b4⟩ := hb x rfl
      exact ⟨b1, b2, b3, b4, h5, h6⟩
  · have hb := he (fun b => ∀ i : Fin 6, b.tallies[i] < 16777216) h2.2.2.1
    cases e with
    | none => simp [build, Tally.built]
    | some x => simpa [build, Tally.built] using hb x rfl i

theorem endEvaluation_safe {k : Kept} (hk : Entry.fromJournal s.journal k.entry) (ho : s.handover.state.offering = false) :
    Safe s (endEvaluation k s) := by
  have hkept : ∀ P, (∀ i : Fin 16, P s.journal[i].body) → k.snapHas P := fun P h e he => hk P h e he
  have h1 : Safe s (build k.entry { s with kept := some k }) :=
    Safe.trans (t := { s with kept := some k }) (Safe.of_kept hkept ho) (build_safe { s with kept := some k } hk)
  have h2 : Safe s (publish ((s.evalIn k false).plan 1) (build k.entry { s with kept := some k })) :=
    h1.trans (publish_safe _ (fun h => evalIn_plan_inRange s false 1 (h.2.2.2.2.1.2.2.2 k rfl))
      fun _ h => Bool.noConfusion (ho.symm.trans h))
  have hoffer (ha : HandOver) (hv : ((s.evalIn k false).plan 1).verdict ≠ .none) :
      Safe s { publish ((s.evalIn k false).plan 1) (build k.entry { s with kept := some k }) with handover := ha } := by
    obtain ⟨e, he, hr⟩ := EvalIn.resumable_of_verdict hv
    exact h2.trans (Safe.of_offer (k := k) (e := e) rfl he hr rfl (evalIn_plan_heatSec s false 1 he hr))
  have h3 : Safe s (actOnVerdict ((s.evalIn k false).plan 1).verdict
      (publish ((s.evalIn k false).plan 1) (build k.entry { s with kept := some k }))) := by
    cases hv : ((s.evalIn k false).plan 1).verdict with
    | none => exact h2.trans (close_safe _)
    | ended => exact h2.trans (carryEnd_safe _)
    | hold => exact hoffer _ (by rw [hv]; exact nofun)
    | auto =>
      have ha := hoffer { s.handover with state := .offeredAuto } (by rw [hv]; exact nofun)
      exact Safe.ite (fun _ => ha.trans (recomputeAuto_safe _ rfl)) fun _ => ha
  exact h3.trans (Safe.of_handover id)

theorem adopt_inRange {m c : Summary} : (m.adopt c).inRange := by
  have hn := netPlus
  refine ⟨Nat.min_le_left _ _, Nat.min_le_left _ _, Nat.min_le_left _ _, Nat.min_le_left _ _, ?_, ?_⟩
  · exact Int.le_max_left _ _
  · simp only [Summary.adopt, netPlus]; omega

theorem adoption_safe (n : Option Word) : Safe s (adoption n s) :=
  Safe.ite (fun _ => Safe.of_outage id fun _ => adopt_inRange) fun _ => Safe.refl s

theorem adoption_handover (n : Option Word) : (adoption n s).handover = s.handover := by
  unfold adoption; split <;> rfl

theorem keyAtScan_safe (n : Option Word) : Safe s (keyAtScan n s) :=
  Safe.ite (fun _ => Safe.of_outage id id) fun _ => Safe.refl s

theorem keyAtScan_handover (n : Option Word) : (keyAtScan n s).handover = s.handover := by
  unfold keyAtScan; split <;> rfl

theorem keyAtScan_journal (n : Option Word) : (keyAtScan n s).journal = s.journal := by
  unfold keyAtScan; split <;> rfl

theorem evaluate_safe {k : Kept} (hk : Entry.fromJournal s.journal k.entry) (ho : s.handover.state.offering = false) :
    Safe s (evaluate k s) := by
  have h : Safe s (endEvaluation k (adoption k.newest s)) :=
    (adoption_safe s k.newest).trans (endEvaluation_safe _ (by rw [(adoption_keeps s _).journal]; exact hk)
      (by rw [adoption_handover]; exact ho))
  exact ⟨h.record, h.tallies, h.queue, h.alerts, h.watch⟩

/-- The scan's numbers in the engine, with the alert for torn entries. -/
def scanRead (s : State) : State :=
  let s1 := { s with engine := scanEngine s.journal s.engine }
  if 1 ≤ s1.engine.torn then raiseBoth .tornFound s1 else s1

/-- A scan reads the journal, gives an open chain its key, and builds the record or ends the evaluation. -/
theorem scanEnds_eq : scanEnds s =
    if s.handover.state = .evaluating then
      evaluate ⟨newestComplete s.journal, (scanEngine s.journal s.engine).curSeq, (scanEngine s.journal s.engine).torn⟩
        (keyAtScan (scanEngine s.journal s.engine).curSeq (scanRead s))
    else buildWithoutChain (newestComplete s.journal) (keyAtScan (scanEngine s.journal s.engine).curSeq (scanRead s)) := rfl

theorem scanRead_safe : Safe s (scanRead s) := by
  have h : Safe s { s with engine := scanEngine s.journal s.engine } := Safe.of_engine_drops (.inl rfl) (.inr rfl)
  exact Safe.ite (fun _ => h.trans (raiseBoth_safe _ nofun)) fun _ => h

theorem scanRead_journal : (scanRead s).journal = s.journal := by unfold scanRead; dsimp only; split <;> rfl

theorem scanRead_handover : (scanRead s).handover = s.handover := by unfold scanRead; dsimp only; split <;> rfl

theorem buildWithoutChain_safe {e : Option Entry} (he : Entry.fromJournal s.journal e) : Safe s (buildWithoutChain e s) := by
  have h := build_safe s he
  exact ⟨h.record, h.tallies, h.queue, h.alerts, h.watch⟩

theorem scanEnds_safe : Safe s (scanEnds s) := by
  rw [scanEnds_eq]
  generalize (scanEngine s.journal s.engine).curSeq = n
  have h : Safe s (keyAtScan n (scanRead s)) := (scanRead_safe s).trans (keyAtScan_safe _ n)
  have hj : (keyAtScan n (scanRead s)).journal = s.journal := (keyAtScan_journal _ n).trans (scanRead_journal s)
  have hh : (keyAtScan n (scanRead s)).handover = s.handover := (keyAtScan_handover _ n).trans (scanRead_handover s)
  have hfrom : Entry.fromJournal (keyAtScan n (scanRead s)).journal (newestComplete s.journal) :=
    hj ▸ newestComplete_fromJournal s.journal
  generalize keyAtScan n (scanRead s) = u at *
  exact Safe.ite (fun he => h.trans (evaluate_safe u hfrom (by rw [hh, he]; rfl))) fun _ =>
    h.trans (buildWithoutChain_safe u hfrom)

/-! ### The apply -/

/-- The preload of a plan on offer. -/
theorem preload_safe {t : Fin 6} {n : Nat} (h : talliesIn24Bits s → 1 ≤ n) : Safe s (preload t n s) := by
  refine ⟨id, fun hT => ⟨fun i => ?_, hT.2⟩, id, id, id⟩
  have hn := h hT
  by_cases e : t = i
  · subst e; simp [preload]; omega
  · have : (t : Nat) ≠ i := fun h => e (Fin.ext h)
    simpa [preload, this] using hT.1 i

theorem preloadTarget_safe {pl : Plan} (hp : s.plan = some pl) (ho : s.handover.state.offering = true) :
    Safe s (preloadTarget pl s) := by
  refine Safe.ite (fun ht => ?_) fun _ => Safe.refl s
  split
  · exact preload_safe s fun hT => (hT.2.2 ho).2 pl hp ht
  · exact Safe.refl s

theorem preloadTarget_plan (pl : Plan) : (preloadTarget pl s).plan = s.plan := by
  unfold preloadTarget
  repeat' split
  all_goals rfl

theorem applyPhase_safe {pl : Plan} (hp : s.plan = some pl) : Safe s (applyPhase pl s) := by
  have hclock : recordInRange s → pl.applyClock ≤ 65535 := fun h => by
    have he := (h.2.2.2.2.2 pl hp).2
    unfold Plan.applyClock
    split
    · exact he
    · exact Nat.zero_le _
  have h1 := putPhase_safe s pl.target hclock
  exact Safe.ite (fun _ => h1) fun _ => Safe.ite (fun _ => changeToDone_safe s _) fun _ =>
    Safe.ite (fun _ => h1.trans (endByChange_safe _ _)) fun _ => h1

theorem applyRequest_safe (pl : Plan) (old : Phase) : Safe s (applyRequest pl old s) :=
  Safe.ite (fun _ => Safe.refl s) fun _ => requestPhase_safe s

theorem apply_safe {pl : Plan} (hp : s.plan = some pl) (ho : s.handover.state.offering = true) : Safe s (apply pl s) := by
  have h1 : Safe s { s with lpr.deficit := pl.dPrime, lpr.runReq := .run } :=
    Safe.of_lpr (fun h => (h.2.2.2.2.2 pl hp).1) fun h => h.2.1
  have h2 := h1.trans (preloadTarget_safe { s with lpr.deficit := pl.dPrime, lpr.runReq := .run } hp ho)
  have h3 := h2.trans (applyPhase_safe _ ((preloadTarget_plan _ pl).trans hp))
  have h4 : Safe s { applyPhase pl (preloadTarget pl { s with lpr.deficit := pl.dPrime, lpr.runReq := .run }) with
      freeze.ret := false } := h3.trans ⟨id, id, id, id, id⟩
  exact (Safe.ite (fun _ => h4.trans (planStart_safe _ _)) fun _ => h4).trans (applyRequest_safe _ _ _)

/-! ### Sensing -/

theorem doorToSched_safe : Safe s (doorToSched s) := Safe.ite (fun _ => endOwn_safe s _) fun _ => Safe.refl s

theorem doorOpening_safe (d : Door) : Safe s (doorOpening d s) :=
  Safe.ite (fun _ => (deliver_safe s _ _).trans (doorToSched_safe _)) fun _ => Safe.refl s

theorem doorToRecord_safe (d : Door) : Safe s (doorToRecord d s) :=
  Safe.ite (fun _ => (senseItem_safe _ _ _).after (Safe.trans
      (t := { s with outage := { s.outage with
        summary.doorOpened := s.outage.summary.doorOpened || d == .opened } }) (Safe.of_outage id id) ⟨id, id, id, id, id⟩))
    fun _ => Safe.ite (fun _ => Safe.refl s) fun _ => ⟨id, id, id, id, id⟩

theorem doorChangeTo_safe (d : Door) : Safe s (doorChangeTo d s) :=
  (((raiseBoth_safe (x := .doorChanged) _ nofun).after (doorToRecord_safe _ d)).after (doorOpening_safe _ d)).after
    ⟨id, id, id, id, id⟩

theorem catchUpDoor_safe : Safe s (catchUpDoor s) := by
  unfold catchUpDoor
  split
  · exact Safe.refl s
  · exact Safe.ite (fun _ => doorChangeTo_safe s _) fun _ => ⟨id, id, id, id, id⟩

theorem acceptDoor_safe (d : Door) : Safe s (acceptDoor d s) := by
  unfold acceptDoor
  split
  · exact Safe.ite (fun _ => (catchUpDoor_safe _).after ⟨id, id, id, id, id⟩) fun _ => ⟨id, id, id, id, id⟩
  · exact Safe.ite (fun _ => Safe.refl s) fun _ => doorChangeTo_safe s _

theorem closeBurst_safe : Safe s (closeBurst s) := by
  unfold closeBurst
  split
  · exact Safe.refl s
  · exact (senseItem_safe _ _ _).after ⟨id, id, id, id, id⟩

theorem addStep_inRange {m : Summary} (d : Dir) (h : m.inRange) : (m.addStep d).inRange := by
  obtain ⟨h1, h2, h3, h4, -, -⟩ := h
  refine ⟨h1, h2, Nat.min_le_left _ _, h4, Int.le_max_left _ _, ?_⟩
  simp only [Summary.addStep, netPlus]; omega

theorem addAmbiguous_inRange {m : Summary} (h : m.inRange) : m.addAmbiguous.inRange := by
  obtain ⟨h1, h2, -, h4⟩ := h
  exact ⟨h1, h2, Nat.min_le_left _ _, h4⟩

theorem stepToRecord_safe (d : Dir) : Safe s (stepToRecord d s) :=
  Safe.trans (t := { s with outage.summary := s.outage.summary.addStep d }) (Safe.of_outage id (addStep_inRange d))
    ⟨id, id, id, id, id⟩

theorem quadToRefs_safe (q : Quad) : Safe s (quadToRefs q s) :=
  Safe.ite (fun _ => ⟨id, id, id, id, id⟩) fun _ => Safe.refl s

theorem quadStepTo_safe (q : Quad) (d : Dir) : Safe s (quadStepTo q d s) := by
  have h2 (u : State) (b : Prop) [Decidable b] (h : Safe s u) : Safe s (if b then deliver .reversals 1 u else u) :=
    Safe.ite (fun _ => h.trans (deliver_safe _ _ _)) fun _ => h
  have h4 (u : State) (b : Bool) (h : Safe s u) : Safe s (if b then deliver .drumTurns 1 u else u) :=
    Safe.ite (fun _ => h.trans (deliver_safe _ _ _)) fun _ => h
  have h5 (u : State) (h : Safe s u) : Safe s (quadToRefs q (if u.logger then stepToRecord d u else u)) :=
    (Safe.ite (fun _ => h.trans (stepToRecord_safe _ _)) fun _ => h).trans (quadToRefs_safe _ _)
  have h3 (u : State) (a : Option Dir) (b : Int) (h : Safe s u) : Safe s { u with sensing.prevDir := a, sensing.acc := b } :=
    h.trans ⟨id, id, id, id, id⟩
  unfold quadStepTo
  exact h5 _ (h4 _ _ (h3 _ _ _ (h2 _ _ ⟨id, id, id, id, id⟩)))

theorem jumpToRecord_safe : Safe s (jumpToRecord s) := by
  have h := closeBurst_safe s
  exact Safe.ite (fun _ => h.trans ((senseItem_safe _ _ _).after (Safe.of_outage id addAmbiguous_inRange))) fun _ => h

theorem quadJumpTo_safe (q : Quad) : Safe s (quadJumpTo q s) := by
  have h : Safe s (quadToRefs q
      { s with sensing.quad := some q, sensing.quadFaults := min 255 (s.sensing.quadFaults + 1) }) :=
    (quadToRefs_safe _ _).after ⟨id, id, id, id, id⟩
  exact Safe.ite (fun _ => h.trans (jumpToRecord_safe _)) fun _ => h

theorem catchUpQuad_safe : Safe s (catchUpQuad s) := by
  unfold catchUpQuad
  split
  · exact Safe.refl s
  · dsimp only
    split
    · exact ⟨id, id, id, id, id⟩
    · split
      · exact ⟨id, id, id, id, id⟩
      · exact (stepToRecord_safe _ _).after ⟨id, id, id, id, id⟩
      · exact (jumpToRecord_safe _).after ⟨id, id, id, id, id⟩

theorem acceptQuad_safe (q : Quad) : Safe s (acceptQuad q s) := by
  unfold acceptQuad
  split
  · exact Safe.ite (fun _ => (catchUpQuad_safe _).after ⟨id, id, id, id, id⟩) fun _ => ⟨id, id, id, id, id⟩
  · split
    · exact Safe.refl s
    · exact quadStepTo_safe _ _ _
    · exact quadJumpTo_safe _ _

theorem heaterSecond_safe : Safe s (heaterSecond s) := Safe.ite (fun _ => deliver_safe s _ _) fun _ => Safe.refl s

theorem tempSecond_safe : Safe s (tempSecond s) := deliver_safe s _ _

theorem doorOpenSecond_safe : Safe s (doorOpenSecond s) :=
  Safe.ite (fun _ => Safe.of_outage id fun ⟨h1, _, h⟩ => ⟨h1, Nat.min_le_left _ _, h⟩) fun _ => Safe.refl s

theorem secondEnds_safe (mv : Nat) (b : Bool) : Safe s (secondEnds mv b s) := by
  have h : Safe s (if b then heaterSecond (tempSecond s) else tempSecond (heaterSecond s)) :=
    Safe.ite (fun _ => (tempSecond_safe s).trans (heaterSecond_safe _)) fun _ => (heaterSecond_safe s).trans (tempSecond_safe _)
  exact (h.trans (doorOpenSecond_safe _)).trans ⟨id, id, id, id, id⟩

theorem faultCeases_inRange {a : Alerts} (h : a.inRange) : a.faultCeases.inRange := by
  unfold Alerts.faultCeases; split <;> exact h

theorem faultCeases_tumbleDue {a : Alerts} (h : a.has Alert.tumbleDue.num = false) :
    a.faultCeases.has Alert.tumbleDue.num = false := by
  unfold Alerts.faultCeases
  split
  · change (a.remove _).has _ = false
    rw [Alerts.has_remove, h]
    rfl
  · exact h

theorem validConversion_safe (t : Int) : Safe s (validConversion t s) := by
  have h : Safe s (if s.sensing.fault then
      { s with panelAlerts := s.panelAlerts.faultCeases, driveAlerts := s.driveAlerts.faultCeases } else s) :=
    Safe.ite (fun _ => Safe.of_alerts faultCeases_inRange faultCeases_inRange faultCeases_tumbleDue) fun _ => Safe.refl s
  have h2 (u : State) (l : Lpr) (ho : HandOver) (v : Sensing) (r : Refs) (hu : Safe s u) (hd : l.deficit = u.lpr.deficit)
      (hc : l.phaseClock = u.lpr.phaseClock) (hh : ho.state = u.handover.state) :
      Safe s { u with lpr := l, handover := ho, sensing := v, refs := r } :=
    ((hu.trans (Safe.of_lpr (fun h => hd ▸ h.1) fun h => hc ▸ h.2.1)).trans (Safe.of_handover fun h => hh ▸ h)).trans
      ⟨id, id, id, id, id⟩
  unfold validConversion
  refine h2 _ _ _ _ _ h rfl rfl ?_
  dsimp only

theorem faultEntry_safe : Safe s (faultEntry s) := by
  have hin {a : Alerts} (h : a.inRange) : a.faultEnters.inRange := h
  have hdue {a : Alerts} (h : a.has Alert.tumbleDue.num = false) : a.faultEnters.has Alert.tumbleDue.num = false := by
    change (a.add _).has _ = false
    rw [Alerts.has_add, h]
    rfl
  have h1 : Safe s { s with
      sensing.fault := true
      sensing.faultAsLogger := s.logger
      panelAlerts := s.panelAlerts.faultEnters
      driveAlerts := s.driveAlerts.faultEnters } :=
    Safe.trans (Safe.of_alerts hin hin hdue) ⟨id, id, id, id, id⟩
  exact Safe.ite (fun _ => h1.trans (senseItem_safe _ _ _)) fun _ => h1

theorem conversion_safe (code : BitVec 10) : Safe s (conversion code s) := by
  have h2 : Safe s { s with sensing.convCode := some code, lpr.stale := true } :=
    Safe.trans (Safe.of_lpr And.left fun h => h.2.1) ⟨id, id, id, id, id⟩
  exact Safe.ite (fun _ => (validConversion_safe _ _).after ⟨id, id, id, id, id⟩) fun _ =>
    Safe.ite (fun _ => h2) fun _ => h2.trans (faultEntry_safe _)

theorem catchUpTemp_safe : Safe s (catchUpTemp s) := by
  have h : Safe s (if s.sensing.fault && !s.sensing.faultAsLogger then senseItem .sensorFault none s else s) :=
    Safe.ite (fun _ => senseItem_safe s _ _) fun _ => Safe.refl s
  unfold catchUpTemp
  dsimp only
  split
  · exact h
  · exact h.trans ⟨id, id, id, id, id⟩

theorem evaluationOpens_safe : Safe s { s with
    handover := { s.handover with state := .evaluating, late := false }, plan := none, engine.scanDue := true } :=
  ⟨fun ⟨h1, h2, h3, h4, h5, _⟩ => ⟨h1, h2, h3, h4, h5, fun _ h => nomatch (h : none = some _)⟩,
   fun ⟨h1, h2, _⟩ => ⟨h1, h2, fun h => Bool.noConfusion (h : false = true)⟩, id, id, id⟩

theorem startEvaluation_safe : Safe s (startEvaluation s) :=
  ((((catchUpTemp_safe _).after (catchUpQuad_safe _)).after (catchUpDoor_safe _)).after (idleSched_safe _)).after
    (evaluationOpens_safe s)

end Sys2Proof.Machine
end

section
/-! PROOFS. What the outage watch, the supervisor and the store engine keep of the five invariants. -/

set_option Elab.async false

namespace Sys2Proof.Machine

variable (s : State)

/-! ### The outage watch -/

namespace Safe

variable {s}

/-- The sequencer passes between two states that are not FLUSHING. -/
theorem of_leaving {q : Sequencer} (hp : s.seq.pace ≤ 3 → q.pace ≤ 3) (hq : s.seq.quiet ≤ 3 → q.quiet ≤ 3)
    (hs : s.seq.state ≠ .flushing) (hq' : q.state ≠ .flushing) (hf : q.flushCopy = s.seq.flushCopy) :
    Safe s { s with seq := q } :=
  ⟨id, id, id, id, fun ⟨h1, h2, h3, h4, h5, h6, h7⟩ =>
    ⟨h1, h2, h3, hp h4, hq h5, iff_of_false hq' fun h => hs (h6.mpr (hf ▸ h)), fun m hm => h7 m (hf ▸ hm)⟩⟩

end Safe

theorem watchEntry_safe : Safe s (watchEntry s) := by
  refine Safe.ite (fun h => Safe.of_leaving (fun _ => ?_) (fun _ => Nat.zero_le _) (by rw [h]; exact nofun) nofun rfl)
    fun _ => Safe.refl s
  simp only [Sequencer.watching]
  split <;> omega

theorem closeSeqBurst_safe : Safe s (closeSeqBurst s) := by
  unfold closeSeqBurst
  split
  · exact Safe.refl s
  · exact (appendItem_safe _ _ _).after (Safe.of_seq id id rfl rfl)

theorem closeSeqBurst_state : (closeSeqBurst s).seq.state = s.seq.state := by
  unfold closeSeqBurst
  split <;> rfl

theorem watchExit_safe : Safe s (watchExit s) := by
  have hoff (u : State) (h : Safe s u) (hu : u.seq.state ≠ .flushing) :
      Safe s { u with seq := { u.seq with state := .dormant, pace := 0, quiet := 0 } } :=
    h.trans (Safe.of_leaving (fun _ => Nat.zero_le _) (fun _ => Nat.zero_le _) hu nofun rfl)
  unfold watchExit
  split
  · rename_i h
    refine hoff _ ((closeSeqBurst_safe s).trans (appendItem_safe _ _ _)) ?_
    change (closeSeqBurst s).seq.state ≠ .flushing
    rw [closeSeqBurst_state, h]
    exact nofun
  · exact appendItem_safe s _ _
  · exact (appendItem_safe s _ _).trans (Safe.of_seq id id rfl rfl)
  · rename_i h
    refine hoff _ (appendItem_safe s _ _) ?_
    change s.seq.state ≠ .flushing
    rw [h]
    exact nofun

theorem sampleBurst_safe (m : Option QuadMove) : Safe s (sampleBurst m s) := by
  unfold sampleBurst
  split
  · exact closeSeqBurst_safe s
  · exact closeSeqBurst_safe s
  · exact Safe.refl s
  · exact Safe.refl s

/-- The door-open seconds of an interval, with the part that is left. -/
theorem doorSeconds_safe (rem sec : Nat) :
    Safe s { s with seq.doorRem := rem, outage.summary.doorOpenSec := min 65535 sec } :=
  Safe.trans (t := { s with seq.doorRem := rem }) (Safe.of_seq id id rfl rfl)
    (Safe.of_outage id fun ⟨h1, _, h⟩ => ⟨h1, Nat.min_le_left _ _, h⟩)

theorem sampleDoor_safe (d : Door) (n : Nat) : Safe s (sampleDoor d n s) := by
  have h : Safe s (if sampleDoorChange s.refs d then
      appendItem (if d = .opened then .doorOpen else .doorClose) none
        { s with outage.summary.doorOpened := s.outage.summary.doorOpened || d == .opened } else s) :=
    Safe.ite (fun _ => (appendItem_safe _ _ _).after (Safe.of_outage id id)) fun _ => Safe.refl s
  unfold sampleDoor
  generalize (if sampleDoorChange s.refs d then _ else s : State) = u at *
  have hu : Safe s { u with refs.door := some d } := h.trans ⟨id, id, id, id, id⟩
  exact Safe.ite (fun _ => hu.trans (doorSeconds_safe _ _ _)) fun _ => hu

theorem sampleQuad_safe (m : Option QuadMove) (q : Quad) : Safe s (sampleQuad m q s) := by
  have hq (u : State) (h : Safe s u) : Safe s { u with refs.quad := some q } := h.trans ⟨id, id, id, id, id⟩
  unfold sampleQuad
  refine hq _ ?_
  split
  · exact Safe.trans (t := { s with seq.burst := burstStep s.seq.burst }) (Safe.of_seq id id rfl rfl)
      (Safe.of_outage id (addStep_inRange _))
  · exact (appendItem_safe _ _ _).after (Safe.of_outage id addAmbiguous_inRange)
  · exact Safe.refl s
  · exact Safe.refl s

theorem sampleTherm_safe (code : BitVec 10) : Safe s (sampleTherm code s) := by
  have h (t : Int) : Safe s { s with
      seq.sampleFault := false, refs.temp := some t, outage.summary.lastTemp := some t } :=
    Safe.trans (t := { s with seq.sampleFault := false }) (Safe.of_seq id id rfl rfl)
      (Safe.trans (t := { s with seq.sampleFault := false, outage.summary.lastTemp := some t }) (Safe.of_outage id id)
        ⟨id, id, id, id, id⟩)
  exact Safe.ite (fun _ => h _) fun _ => Safe.ite (fun _ => Safe.refl s) fun _ =>
    (appendItem_safe _ _ _).after (Safe.of_seq id id rfl rfl)

theorem sampleVbk_safe (mv : Nat) : Safe s (sampleVbk mv s) := by
  have h : Safe s { s with seq.lastVbk := some mv } := Safe.of_seq id id rfl rfl
  exact Safe.ite (fun _ => (appendItem_safe _ _ _).after (h.trans (Safe.of_outage id id))) fun _ => h

theorem settledPace_le {pace quiet : Nat} {moved warmed low : Bool} (hp : pace ≤ 3) (hq : quiet ≤ 3) :
    (settledPace pace quiet moved warmed low).1 ≤ 3 ∧ (settledPace pace quiet moved warmed low).2 ≤ 3 := by
  unfold settledPace
  split <;> [skip; split <;> [skip; split]] <;> cases low <;> simp <;> omega

theorem settlePace_safe (moved warmed : Bool) : Safe s (settlePace moved warmed s) :=
  ⟨id, id, id, id, fun ⟨h1, h2, h3, h4, h5, h⟩ =>
    have hle := settledPace_le (moved := moved) (warmed := warmed) (low := s.outage.summary.backupLow) h4 h5
    ⟨h1, h2, h3, hle.1, hle.2, h⟩⟩

theorem enterFlushing_safe : Safe s (enterFlushing s) :=
  (closeSeqBurst_safe s).trans ⟨id, id, id, id, fun ⟨h1, h2, h3, h4, h5, _, _⟩ =>
    ⟨h1, h2, h3, h4, h5, iff_of_true rfl rfl, fun _ hm => Option.some.inj hm ▸ h2⟩⟩

theorem takeSample_safe (d : Door) (q : Quad) (code : BitVec 10) (mv : Nat) : Safe s (takeSample d q code mv s) := by
  have h := (((((sampleBurst_safe s (sampleMove s.refs q)).trans (sampleDoor_safe _ d s.seq.interval)).trans
    (sampleQuad_safe _ (sampleMove s.refs q) q)).trans (sampleTherm_safe _ code)).trans (sampleVbk_safe _ (measuredMv mv))).trans
    (settlePace_safe _ (sampleDoorChange s.refs d || ((sampleMove s.refs q).map QuadMove.isMove).getD false)
      (sampleTempChange code s))
  exact Safe.ite (fun _ => h.trans (enterFlushing_safe _)) fun _ => h

theorem endFlush_safe : Safe s (endFlush s) := by
  unfold endFlush
  split
  · exact Safe.refl s
  · rename_i c hc
    have h1 : Safe s { s with engine.work := if s.engine.work = .flush then .idle else s.engine.work } :=
      Safe.of_engine_drops (.inl rfl) (by
        change (if s.engine.work = .flush then Work.idle else s.engine.work) = _ ∨ _
        split
        · exact .inr rfl
        · exact .inl rfl)
    refine h1.trans ⟨id, id, id, id, fun ⟨h1, h2, h3, h4, h5, h6, h7⟩ => ⟨h1, h2, h7 c hc, h4, h5, iff_of_false ?_ nofun, nofun⟩⟩
    dsimp only
    split <;> exact nofun

/-! ### Chains and the loss sequence -/

theorem Summary.opening_inRange (q : Quality) : (Summary.opening q).inRange :=
  ⟨Nat.zero_le _, Nat.zero_le _, Nat.zero_le _, Nat.zero_le _, by simp [Summary.opening], by simp [Summary.opening]⟩

theorem openChain_safe (how : OpenedBy) (key : Option Word) : Safe s (openChain how key s) :=
  Safe.of_outage (fun _ => Nat.zero_le _) fun _ => Summary.opening_inRange (if how = .cold then .unknown else .known)

theorem lossToHandOver_safe : Safe s (lossToHandOver s) :=
  Safe.ite (fun _ => Safe.refl s) fun _ =>
    (Safe.of_closed (s := s) (h := { s.handover with state := .closed, late := false }) rfl).trans ⟨id, id, id, id, id⟩

theorem abandonScan_safe : Safe s (abandonScan s) :=
  Safe.of_engine_drops (.inl rfl) (by
    change (if s.engine.work = .scanning then Work.idle else s.engine.work) = _ ∨ _
    split
    · exact .inr rfl
    · exact .inl rfl)

theorem lossToBurst_safe : Safe s (lossToBurst s) := by
  unfold lossToBurst
  split
  · exact Safe.refl s
  · exact (appendItem_safe _ _ _).after ⟨id, id, id, id, id⟩

theorem lossToChain_safe : Safe s (lossToChain s) :=
  Safe.ite (fun _ => (appendItem_safe s _ _).trans ⟨id, id, id, id, id⟩) fun _ =>
    (openChain_safe s _ _).trans ⟨id, id, id, id, id⟩

theorem emptyQueue_safe : Safe s { s with engine.queue := [] } := Safe.of_engine_drops (.inr rfl) (.inl rfl)

theorem loss_safe : Safe s (loss s) := by
  have h0 : Safe s { s with
      mains := { s.mains with mode := .fading, lossTimer := max s.mains.lossTimer (s.settings.cfg 2 * 1000), qualPending := false }
      freeze.loss := true } := ⟨id, id, id, id, id⟩
  have h5 := ((((h0.trans (lossToHandOver_safe _)).trans (abandonScan_safe _)).trans
    (raiseBoth_safe (x := .mainsLoss) _ nofun)).trans (idleSched_safe _)).trans (lossToBurst_safe _)
  have h7 := ((lossToChain_safe _).after (emptyQueue_safe _)).after h5
  exact (h7.trans (watchEntry_safe _)).trans ⟨id, id, id, id, id⟩

/-! ### Returns -/

theorem makeLastGasp_safe : Safe s (makeLastGasp s) := (requestLastGasp_safe _).after ⟨id, id, id, id, id⟩

theorem returnWithChain_safe : Safe s (returnWithChain s) :=
  ((startEvaluation_safe _).after (watchExit_safe _)).after ⟨id, id, id, id, id⟩

theorem qualifyWaking_safe : Safe s (qualifyWaking s) :=
  Safe.ite (fun _ => returnWithChain_safe s) fun _ => ⟨id, id, id, id, id⟩

theorem qualifyFading_safe : Safe s (qualifyFading s) := by
  unfold qualifyFading
  split
  · exact (makeLastGasp_safe _).after ⟨id, id, id, id, id⟩
  · exact ⟨id, id, id, id, id⟩
  · exact returnWithChain_safe s

theorem qualify_safe : Safe s (qualify s) := by
  unfold qualify
  split
  · exact qualifyWaking_safe s
  · exact qualifyFading_safe s
  · exact returnWithChain_safe s
  · exact Safe.refl s

theorem pulse_safe (after : Nat) : Safe s (pulse after s) := by
  have h : Safe s { s with mains := { s.mains with
      runCount := pulseCount s.mains (s.mains.lossTimer + after), accepted := true, lossTimer := 0 } } := ⟨id, id, id, id, id⟩
  exact Safe.ite (fun _ => ⟨id, id, id, id, id⟩) fun _ => Safe.ite (fun _ => h.trans (qualify_safe _)) fun _ => h

theorem endFading_safe : Safe s (endFading s) :=
  Safe.ite (fun _ => (returnWithChain_safe _).after ⟨id, id, id, id, id⟩) fun _ => ⟨id, id, id, id, id⟩

theorem windowExpires_safe : Safe s (windowExpires s) := by
  unfold windowExpires
  split
  · exact makeLastGasp_safe s
  · exact endFading_safe s
  · exact ⟨id, id, id, id, id⟩

/-! ### Starts and ends of the domains -/

theorem cutField_of {α : Type} {P : α → Prop} (m : BitVec 17) (i : Nat) {new old : α} (hn : P new) (ho : P old) :
    P (cutField m i new old) := by
  unfold cutField
  split
  · exact hn
  · exact ho

theorem cutBody_inRange (m : BitVec 17) {new old : Snapshot} (hn : new.inRange) (ho : old.inRange) :
    (cutBody m new old).inRange :=
  ⟨cutField_of (P := (· ≤ 1000)) m 5 hn.1 ho.1, cutField_of (P := (· ≤ 65535)) m 6 hn.2.1 ho.2.1,
    cutField_of (P := (· ≤ 255)) m 15 hn.2.2.1 ho.2.2.1, cutField_of (P := (· ≤ 3)) m 16 hn.2.2.2 ho.2.2.2⟩

theorem cutBody_tallies (m : BitVec 17) {new old : Snapshot} {n : Nat} (hn : ∀ i : Fin 6, new.tallies[i] < n)
    (ho : ∀ i : Fin 6, old.tallies[i] < n) (i : Fin 6) : (cutBody m new old).tallies[i] < n := by
  simpa [cutBody] using cutField_of (P := (· < n)) m (8 + i.val) (hn i) (ho i)

/-- The body of a slot whose write was cut has what the new body and the old one have, and what a cut body of the two has. -/
theorem cutSlot_body {P : Snapshot → Prop} {cut : CutStep} {m : BitVec 17} {n : Word} {o : Origin} {snap : Snapshot} {old : Slot}
    (hn : P snap) (ho : P old.body) (hc : P (cutBody m snap old.body)) : P (cutSlot cut m n o snap old).body := by
  cases cut with
  | header => exact ho
  | body => exact hc
  | commit => exact hn

/-- Every body has `P` after one slot was rewritten with a body that has it. -/
theorem journal_set_body {P : Snapshot → Prop} {j : Vector Slot 16} {k : Fin 16} {x : Slot} (hx : P x.body)
    (hj : ∀ i : Fin 16, P j[i].body) (i : Fin 16) : P (j.set k x)[i].body := by
  by_cases e : k = i
  · subst e; simpa using hx
  · have : (k : Nat) ≠ i := fun h => e (Fin.ext h)
    simpa [this] using hj i

theorem cutWrite_safe (cut : CutStep) : Safe s (cutWrite cut s) := by
  have hseq (u : State) (h : Safe s u) (b : Bool) : Safe s { u with seq.backupFlush := b } :=
    h.trans (Safe.of_seq id id rfl rfl)
  unfold cutWrite
  refine hseq _ ?_ _
  cases hw : s.engine.work with
  | entry pos n o snap =>
    have hj : Safe s { s with
        journal := s.journal.set pos (cutSlot cut (Config.freeBodyPart s.freeCount) n o snap s.journal[pos]) } := by
      refine Safe.of_journal fun P hP h => journal_set_body ?_ h.2.2.1
      have hsnap : P snap := by
        have := h.2.1
        rw [hw] at this
        exact this
      refine cutSlot_body hsnap (h.2.2.1 pos) ?_
      rcases hP with rfl | rfl
      · exact cutBody_inRange _ hsnap (h.2.2.1 pos)
      · exact cutBody_tallies _ hsnap (h.2.2.1 pos)
    exact hj.trans ⟨id, id, id, id, id⟩
  | _ => exact Safe.refl s

theorem Alerts.start_inRange : Alerts.start.inRange := ⟨by decide, by decide⟩

theorem clearMain_safe : Safe s (clearMain s) := by
  refine ⟨fun ⟨_, _, _, _, h5, _⟩ => ?_, fun ⟨_, h2, _⟩ => ?_, fun _ => ?_, fun _ => ?_, id⟩
  · exact ⟨Nat.zero_le _, Nat.zero_le _, Nat.zero_le _, Nat.zero_le _,
      ⟨(fun _ hr => nomatch hr), trivial, h5.2.2.1, fun _ h => nomatch (h : none = some _)⟩, fun _ h => nomatch (h : none = some _)⟩
  · refine ⟨fun i => ?_, ⟨(fun _ hr => nomatch hr), trivial, h2.2.2.1, fun _ h => nomatch (h : none = some _)⟩,
      fun h => Bool.noConfusion (h : false = true)⟩
    simp [clearMain, talliesStart, Tally.start]
  · exact ⟨fun _ => Nat.zero_le _, fun _ => Nat.zero_le _⟩
  · exact ⟨Alerts.start_inRange, Alerts.start_inRange, rfl⟩

theorem freshBackup_safe : Safe s (freshBackup s) := by
  refine ⟨id, id, id, id, fun ⟨_, _, h3, _, _, _, _⟩ => ⟨Nat.zero_le _, ?_, h3, Nat.zero_le _, Nat.zero_le _, ?_, ?_⟩⟩
  · exact Summary.opening_inRange .unknown
  · exact iff_of_false nofun nofun
  · exact fun _ h => nomatch (h : none = some _)

theorem mainStart_safe (mv : Nat) : Safe s (mainStart mv s) := by
  have h : Safe s { clearMain s with sensing := { (clearMain s).sensing with backupMv := some (measuredMv mv) } } :=
    (clearMain_safe s).trans ⟨id, id, id, id, id⟩
  exact Safe.ite (fun _ => h.trans (openChain_safe _ _ _)) fun _ => h

theorem collapse_safe (cut : CutStep) : Safe s (collapse cut s) := by
  have h : Safe s (clearMain (if s.mainRunning then cutWrite cut s else s)) :=
    (Safe.ite (fun _ => cutWrite_safe s cut) fun _ => Safe.refl s).trans (clearMain_safe _)
  have h2 : Safe s { clearMain (if s.mainRunning then cutWrite cut s else s) with vdd := false, rstn := false } :=
    h.trans ⟨id, id, id, id, id⟩
  exact Safe.ite (fun _ => h2.trans (watchEntry_safe _)) fun _ => h2

theorem assertReset_safe (cut : CutStep) : Safe s (assertReset cut s) := by
  have h : Safe s { clearMain (cutWrite cut s) with rstn := true } :=
    ((cutWrite_safe s cut).trans (clearMain_safe _)).trans ⟨id, id, id, id, id⟩
  exact Safe.ite (fun _ => h.trans (Safe.of_outage id id)) fun _ => h.trans (openChain_safe _ _ _)

/-! ### The store engine's ends -/

theorem raiseDone_safe (o : Origin) : Safe s (raiseDone o s) := by
  cases o with
  | panel => exact raiseOn_safe (x := .checkpointDone) s fun _ => nofun
  | drive => exact raiseOn_safe (x := .checkpointDone) s nofun
  | _ => exact raiseBoth_safe (x := .checkpointDone) s nofun

theorem commitEffects_safe (o : Origin) : Safe s (commitEffects o s) := by
  cases o with
  | tally => exact ⟨id, id, id, id, id⟩
  | lastgasp => exact Safe.ite (fun _ => endFading_safe s) fun _ => ⟨id, id, id, id, id⟩
  | _ => exact Safe.refl s

theorem commit_safe {pos : Fin 16} {n : Word} {o : Origin} {snap : Snapshot} (hw : s.engine.work = .entry pos n o snap) :
    Safe s (commit pos n o snap s) := by
  have hj : Safe s { s with journal := s.journal.set pos (committedSlot n o snap) } :=
    Safe.of_journal fun P _ h => journal_set_body (by have := h.2.1; rw [hw] at this; exact this) h.2.2.1
  have hi : Safe s { s with journal := s.journal.set pos (committedSlot n o snap), engine.work := .idle } :=
    hj.trans (Safe.of_engine_drops (.inl rfl) (.inr rfl))
  exact (hi.trans (raiseDone_safe _ o)).trans (commitEffects_safe _ o)

theorem entryWork_safe : Safe s (entryWork s) := by
  unfold entryWork
  split
  · exact (commit_safe s ‹_›).trans (serve_safe _)
  · exact Safe.refl s

theorem workingField_safe (it : Item) (w : Word) : Safe s (workingField it w s) := by
  cases it with
  | tallyCtl t f => exact Safe.of_tally s id
  | _ => exact Safe.refl s

theorem settingsEnds_safe (p : Port) (it : Item) (w r : Word) : Safe s (settingsEnds p it w r s) := by
  have h : Safe s { s with settings := s.settings.put it r, engine.work := .idle } :=
    Safe.trans (t := { s with engine.work := .idle }) (Safe.of_engine_drops (.inl rfl) (.inr rfl)) ⟨id, id, id, id, id⟩
  exact (raiseOn_safe (x := .settingsWritten) _ fun _ => nofun).after
    (Safe.trans (h.trans (workingField_safe _ it r)) ⟨id, id, id, id, id⟩)

theorem settingsWork_safe (r : Word) : Safe s (settingsWork r s) := by
  unfold settingsWork
  split
  · exact (settingsEnds_safe s _ _ _ _).trans (serve_safe _)
  · exact Safe.refl s

/-! ### The backup domain's events -/

theorem timerSecond_safe : Safe s (timerSecond s) :=
  Safe.of_outage id fun ⟨_, h⟩ => ⟨Nat.min_le_left _ _, h⟩

end Sys2Proof.Machine
end

section
/-! PROOFS. Every command keeps the five invariants, and with them each step (O8, O9, O10, O12, O13). -/

set_option Elab.async false

namespace Sys2Proof.Machine

/-! ### Frames -/

section

variable (p : Port) (cls : Code) (idx : Index) (data : Word) (s : State)

theorem setPort_safe (q : PortState) : Safe s (s.setPort p q) := by
  cases p <;> exact ⟨id, id, id, id, id⟩

theorem answeredFree_safe (r : Result) : Safe s (answeredFree r s).st := ⟨id, id, id, id, id⟩

theorem dealNop_safe : Safe s (dealNop p s).st := by
  unfold dealNop
  split
  · exact Safe.refl s
  · split <;> exact Safe.refl s

theorem dealRead_safe : Safe s (dealRead p cls idx data s).st := Safe.ite (fun _ => setPort_safe p s _) fun _ => Safe.refl s

theorem dealMonitor_safe : Safe s (dealMonitor p cls data s).st := by
  unfold dealMonitor
  split
  · exact Safe.refl s
  · split
    · exact (setPort_safe p s _).trans (answeredFree_safe _ _)
    · exact Safe.refl s

/-! #### LIVE -/

theorem liveWrite_safe {owner : Port} {i : Nat} {free : Bool} {take : State → Reply} (h : Safe s (take s).st) :
    Safe s (liveWrite owner p i free take s).st := by
  unfold liveWrite
  split
  · exact answeredFree_safe s _
  · split
    · exact Safe.refl s
    · split
      · exact Safe.refl s
      · exact h

theorem takeProgramme_safe : Safe s (takeProgramme data s).st := by
  unfold takeProgramme
  split
  · exact Safe.of_lpr And.left fun h => h.2.1
  · exact Safe.refl s

theorem takeOptions_safe : Safe s (takeOptions data s).st := by
  unfold takeOptions
  split
  · exact Safe.of_lpr And.left fun h => h.2.1
  · exact Safe.refl s

theorem storeRunReq_safe (r : RunReq) : Safe s (storeRunReq r s) := by
  have h : Safe s { s with lpr.runReq := r } := Safe.of_lpr And.left fun h => h.2.1
  exact Safe.ite (fun _ => Safe.refl s) fun _ => Safe.ite (fun _ => h) fun _ => h.trans (suspendSched_safe _)

theorem cancelProgramme_safe : Safe s (cancelProgramme s) :=
  Safe.ite (fun _ => Safe.of_lpr And.left fun h => h.2.1) fun _ => (changeToDone_safe s _).trans (serve_safe _)

theorem takeRunReq_safe : Safe s (takeRunReq data s).st := by
  unfold takeRunReq
  split
  · exact cancelProgramme_safe s
  · split
    · exact storeRunReq_safe s _
    · exact Safe.refl s

theorem takePhase_safe : Safe s (takePhase data s).st := by
  unfold takePhase
  split
  · split
    · exact (changePhase_safe s _).trans (serve_safe _)
    · exact Safe.refl s
  · exact Safe.refl s

theorem takeDeficit_safe : Safe s (takeDeficit data s).st :=
  Safe.of_lpr (fun _ => Nat.min_le_left _ _) fun h => h.2.1

theorem dealLiveReadOnly_safe (i : Nat) : Safe s (dealLiveReadOnly i s).st := by
  unfold dealLiveReadOnly
  split
  · exact Safe.refl s
  · split
    · exact answeredFree_safe s _
    · split
      · exact answeredFree_safe s _
      · exact Safe.refl s

theorem dealWriteLive_safe (i : Nat) : Safe s (dealWriteLive p i data s).st := by
  unfold dealWriteLive
  split
  · exact liveWrite_safe p s (takeProgramme_safe data s)
  · exact liveWrite_safe p s (takeOptions_safe data s)
  · exact liveWrite_safe p s (takeRunReq_safe data s)
  · exact liveWrite_safe p s (takePhase_safe data s)
  · exact liveWrite_safe p s (takeDeficit_safe data s)
  · exact dealLiveReadOnly_safe s _

/-! #### Tallies -/

theorem putLow_lt {v d : Nat} (h : v < 16777216) (hd : d < 65536) : putLow v d < 16777216 := by unfold putLow; omega

theorem putHigh_lt {v d : Nat} (hd : d ≤ 255) : putHigh v d < 16777216 := by unfold putHigh; omega

theorem takeTallyValue_safe (t : Fin 6) (high : Bool) : Safe s (takeTallyValue t high data s).st := by
  cases high with
  | false => exact Safe.of_tally s fun h => putLow_lt h data.isLt
  | true => exact Safe.of_tally s fun _ => putHigh_lt (Nat.min_le_left _ _)

theorem dealTallyValue_safe (t : Fin 6) (high : Bool) : Safe s (dealTallyValue p t high data s).st := by
  unfold dealTallyValue
  split
  · exact Safe.refl s
  · split
    · exact Safe.refl s
    · split
      · exact Safe.refl s
      · exact takeTallyValue_safe data s t high

theorem dealOverflow_safe (t : Fin 6) : Safe s (dealOverflow p t data s).st := by
  unfold dealOverflow
  split
  · exact Safe.refl s
  · split
    · exact Safe.refl s
    · split
      · exact Safe.refl s
      · exact (answeredFree_safe (clearOverflow t s) _).after (Safe.of_tally s id)

theorem dealWriteTally_safe (i : Nat) : Safe s (dealWriteTally p i data s).st := by
  unfold dealWriteTally
  split
  · exact dealTallyValue_safe p data s _ _
  · exact dealTallyValue_safe p data s _ _
  · exact dealOverflow_safe p data s _
  · exact Safe.refl s
  · exact Safe.refl s

theorem dealFreeze_safe : Safe s (dealFreeze p cls s).st := by
  unfold dealFreeze
  split
  · exact Safe.refl s
  · exact ⟨id, id, id, id, id⟩

theorem dealRelease_safe : Safe s (dealRelease p cls s).st := by
  unfold dealRelease
  split
  · exact Safe.refl s
  · exact ⟨id, id, id, id, id⟩

/-! #### Settings -/

theorem refusedSetting_safe (it : Item) (r : Result) : Safe s (refusedSetting it r s).st := by
  unfold refusedSetting
  split
  · split
    · exact Safe.refl s
    · exact answeredFree_safe s r
  · exact Safe.refl s

theorem dealSettingAt_safe (it : Option Item) : Safe s (dealSettingAt p it data s).st := by
  cases it with
  | none => exact Safe.refl s
  | some it =>
    change Safe s (dealSetting p it data s).st
    unfold dealSetting
    split
    · exact refusedSetting_safe s it _
    · split
      · exact refusedSetting_safe s it _
      · rename_i hpending
        split
        · exact refusedSetting_safe s it _
        · split
          · exact (requestSettings_safe s it _ (Bool.eq_false_iff.mpr hpending)).trans (serve_safe _)
          · exact refusedSetting_safe s it _

/-! #### Alerts -/

/-- A port's alerts replaced by ones in range that hold TUMBLE_DUE only where those before did. -/
theorem setAlerts_safe {a : Alerts} (hr : (s.alerts p).inRange → a.inRange)
    (ht : (s.alerts p).has Alert.tumbleDue.num = false → a.has Alert.tumbleDue.num = false) : Safe s (s.setAlerts p a) := by
  cases p with
  | panel => exact Safe.of_alerts (b := s.driveAlerts) hr id ht
  | drive => exact Safe.of_alerts (a := s.panelAlerts) id hr id

theorem Alerts.take_inRange {a : Alerts} {i : Fin 13} {f : Bool} (h : a.inRange) : (a.take i f).inRange := by
  refine ⟨?_, ?_⟩
  · unfold Alerts.take
    dsimp only
    split
    · exact h.1
    · exact h.2 i
  · unfold Alerts.take
    dsimp only
    split
    · split <;> exact h.2
    · exact h.2

theorem Alerts.take_tumbleDue {a : Alerts} {i : Fin 13} {f : Bool} (h : a.has Alert.tumbleDue.num = false) :
    (a.take i f).has Alert.tumbleDue.num = false := by
  have hr : (a.remove i).has Alert.tumbleDue.num = false := by rw [Alerts.has_remove, h]; rfl
  unfold Alerts.take
  dsimp only
  split
  · split
    · exact h
    · exact hr
  · exact hr

theorem dealTakeAlert_safe : Safe s (dealTakeAlert p cls s).st := by
  unfold dealTakeAlert
  split
  · exact Safe.refl s
  · split
    · exact Safe.refl s
    · exact setAlerts_safe p s Alerts.take_inRange Alerts.take_tumbleDue

theorem dealSetMask_safe : Safe s (dealSetMask p cls data s).st := by
  unfold dealSetMask
  split
  · exact Safe.refl s
  · exact setAlerts_safe p s (fun h => ⟨Nat.min_le_left _ _, h.2⟩) id

theorem dealAlertLevel_safe (i : Nat) : Safe s (dealAlertLevel p i data s).st := by
  unfold dealAlertLevel
  split
  · rename_i x _
    refine setAlerts_safe p s (fun h => ⟨h.1, fun j => ?_⟩) id
    by_cases e : x = j
    · subst e; simp
    · have : (x : Nat) ≠ j := fun h => e (Fin.ext h)
      simpa [this] using h.2 j
  · exact Safe.refl s

theorem dealWrite_safe : Safe s (dealWrite p cls idx data s).st := by
  unfold dealWrite
  split
  · exact dealWriteLive_safe p data s _
  · exact dealWriteTally_safe p data s _
  · exact dealSettingAt_safe p data s _
  · exact dealAlertLevel_safe p data s _
  · exact dealSettingAt_safe p data s _
  · exact dealSettingAt_safe p data s _
  · exact dealSettingAt_safe p data s _
  all_goals exact Safe.refl s

/-! #### Commands of the store, the hand-over and the scheduler -/

theorem takeCheckpoint_safe : Safe s (takeCheckpoint p s) :=
  Safe.ite (fun _ => request_safe s _) fun _ => makeLastGasp_safe s

theorem dealCheckpoint_safe : Safe s (dealCheckpoint p cls s).st := by
  unfold dealCheckpoint
  split
  · exact Safe.refl s
  · split
    · exact Safe.refl s
    · split
      · exact Safe.refl s
      · split
        · exact Safe.refl s
        · exact (takeCheckpoint_safe p s).trans (serve_safe _)

theorem dealConfirm_safe : Safe s (dealConfirm p cls s).st := by
  unfold dealConfirm
  split
  · exact Safe.refl s
  · split
    · exact Safe.refl s
    · split
      · exact Safe.refl s
      · rename_i h
        exact (recomputeConfirm_safe s (by rw [not_not.mp h]; rfl)).trans (serve_safe _)

theorem dealAccept_safe : Safe s (dealAccept p cls data s).st := by
  unfold dealAccept
  split
  · exact Safe.refl s
  · split
    · exact Safe.refl s
    · split
      · exact Safe.refl s
      · rename_i h
        split
        · exact Safe.refl s
        · split
          · exact Safe.refl s
          · refine ((apply_safe s ‹_› ?_).trans (close_safe _)).trans (serve_safe _)
            by_cases ha : s.handover.state = .offeredAuto
            · rw [ha]; rfl
            · rw [not_not.mp fun hc => h ⟨ha, hc⟩]; rfl

theorem dealDecline_safe : Safe s (dealDecline p cls s).st := by
  unfold dealDecline
  split
  · exact Safe.refl s
  · split
    · exact Safe.refl s
    · split
      · exact Safe.refl s
      · exact ((writeDone_safe s _).trans (close_safe _)).trans (serve_safe _)

theorem acknowledge_safe : Safe s (acknowledge s) := (deliver_safe _ _ _).after (Safe.of_sched id fun _ => Nat.zero_le _)

theorem dealTumbleAck_safe : Safe s (dealTumbleAck p cls s).st := by
  unfold dealTumbleAck
  split
  · exact Safe.refl s
  · split
    · exact Safe.refl s
    · split
      · exact Safe.refl s
      · exact (acknowledge_safe s).trans (serve_safe _)

theorem dealFrame_safe (w : Frame) : Safe s (dealFrame p w s).st := by
  unfold dealFrame
  dsimp only
  split
  · exact dealNop_safe p s
  · exact dealRead_safe p _ _ _ s
  · exact dealWrite_safe p _ _ _ s
  · exact dealCheckpoint_safe p _ s
  · exact dealTakeAlert_safe p _ s
  · exact dealSetMask_safe p _ _ s
  · exact dealConfirm_safe p _ s
  · exact dealAccept_safe p _ _ s
  · exact dealDecline_safe p _ s
  · exact dealFreeze_safe p _ s
  · exact dealRelease_safe p _ s
  · exact dealMonitor_safe p _ _ s
  · exact dealTumbleAck_safe p _ s
  · exact Safe.refl s

theorem receiveFrame_safe (w : Frame) : Safe s (receiveFrame p w s) :=
  Safe.ite (fun _ => Safe.ite (fun _ => Safe.ite (fun _ => setPort_safe p s _) fun _ =>
      ((setPort_safe p s _).trans (dealFrame_safe p _ w)).trans (setPort_safe p _ _)) fun _ => setPort_safe p s _)
    fun _ => Safe.refl s

theorem gapIn_safe (bits : Nat) : Safe s (gapIn p bits s) :=
  Safe.ite (fun _ => Safe.ite (fun _ => (setPort_safe p s _).trans (raiseOn_safe (x := .linkFault) _ fun _ => nofun))
    fun _ => setPort_safe p s _) fun _ => Safe.refl s

end

/-! ### Events -/

section

variable (s : State)

theorem clockSecond_safe : Safe s (clockSecond s) := by
  have h : Safe s (deliver .runSeconds 1 { s with lpr.phaseClock := min 65535 (s.lpr.phaseClock + 1), lpr.partMs := 0 }) :=
    (deliver_safe _ _ _).after (Safe.of_lpr And.left fun _ => Nat.min_le_left _ _)
  exact h.trans (Safe.ite (fun _ => windowTest_safe _) fun _ => Safe.refl _)

theorem restOver_safe : Safe s (restOver s) := Safe.ite (fun _ => endOwn_safe s _) fun _ => enterDue_safe s

theorem missPulse_safe : Safe s (missPulse s) := by
  have h : Safe s { s with sched.missed := min 3 (s.sched.missed + 1) } := Safe.of_sched id fun _ => Nat.min_le_left _ _
  exact Safe.ite (fun _ => h.trans (endOwn_safe _ _)) fun _ => h.trans (enterRest_safe _ _)

theorem completePulse_safe : Safe s (completePulse s) :=
  (enterRest_safe _ _).after (Safe.of_sched (fun _ => Nat.min_le_left _ _) id)

theorem mismatchPasses_safe : Safe s (mismatchPasses s) :=
  (raiseBoth_safe (x := .heaterMismatch) _ nofun).after ⟨id, id, id, id, id⟩

theorem tick_safe : Safe s (tick s) := by
  have hsched : s.sched.pulsesDone = (s.sched.tick s.schedRuns).pulsesDone
      ∧ s.sched.missed = (s.sched.tick s.schedRuns).missed := by
    unfold Sched.tick
    split <;> exact ⟨rfl, rfl⟩
  have hmain : Safe s (tickMain s) :=
    Safe.ite (fun _ => Safe.trans (t := { s with sched := s.sched.tick s.schedRuns })
      (Safe.of_sched (fun h => hsched.1 ▸ h) fun h => hsched.2 ▸ h) ⟨id, id, id, id, id⟩) fun _ => Safe.refl s
  refine hmain.trans (Safe.ite (fun _ => ?_) fun _ => Safe.refl _)
  generalize tickMain s = u
  have hq : u.seq.tick.pace = u.seq.pace ∧ u.seq.tick.quiet = u.seq.quiet ∧ u.seq.tick.state = u.seq.state
      ∧ u.seq.tick.flushCopy = u.seq.flushCopy := by
    unfold Sequencer.tick
    split <;> exact ⟨rfl, rfl, rfl, rfl⟩
  obtain ⟨hp, hq, hs, hf⟩ := hq
  exact Safe.trans (t := { u with outage.partMs := partSecond u.timerCounts u.outage.partMs }) (Safe.of_outage id id)
    (Safe.of_seq (fun h => hp ▸ h) (fun h => hq ▸ h) hs hf)

end

/-- What a running main domain does, and what it leaves undone otherwise. -/
theorem Safe.guarded {s a : State} {c : Prop} [Decidable c] (h : c → Safe s a) : Safe s (if c then a else s) :=
  Safe.ite h fun _ => Safe.refl s

theorem exec_safe (c : Instr) (s t : State) (h : exec c s = .next t) : Safe s t := by
  cases hf : c.frame with
  | some pw =>
    obtain ⟨p, w⟩ := pw
    cases (exec_of_frame s hf).symm.trans h
    exact receiveFrame_safe p s w
  | none =>
    cases c with
    | frameGap p bits => cases h; exact gapIn_safe p s bits
    | zeroCrossPulse a => cases h; exact Safe.guarded fun _ => (pulse_safe s a).trans (serve_safe _)
    | lossDeclaration => cases h; exact Safe.guarded fun _ => (loss_safe s).trans (serve_safe _)
    | qualificationWithdrawn => cases h; exact Safe.guarded fun _ => ⟨id, id, id, id, id⟩
    | lastGaspWindowExpiry => cases h; exact Safe.guarded fun _ => (windowExpires_safe s).trans (serve_safe _)
    | rstnAssertion cut => cases h; exact Safe.guarded fun _ => assertReset_safe s cut
    | rstnRelease mv => cases h; exact Safe.guarded fun _ => (mainStart_safe _ mv).after ⟨id, id, id, id, id⟩
    | coldStart mv =>
      cases h
      exact Safe.guarded fun _ => ((mainStart_safe _ mv).after (freshBackup_safe _)).after ⟨id, id, id, id, id⟩
    | backupOnlyStart => cases h; exact Safe.guarded fun _ => (freshBackup_safe _).after ⟨id, id, id, id, id⟩
    | warmReturn mv => cases h; exact Safe.guarded fun _ => (mainStart_safe _ mv).after ⟨id, id, id, id, id⟩
    | vddCollapse cut => cases h; exact Safe.guarded fun _ => collapse_safe s cut
    | vbkLoss => cases h; exact Safe.guarded fun _ => (freshBackup_safe s).trans ⟨id, id, id, id, id⟩
    | doorFirstAdoption o => cases h; exact Safe.guarded fun _ => (acceptDoor_safe s _).trans (serve_safe _)
    | doorChange o => cases h; exact Safe.guarded fun _ => (acceptDoor_safe s _).trans (serve_safe _)
    | quadFirstAdoption q => cases h; exact Safe.guarded fun _ => (acceptQuad_safe s q).trans (serve_safe _)
    | quadStep q => cases h; exact Safe.guarded fun _ => (acceptQuad_safe s q).trans (serve_safe _)
    | quadIllegalJump q => cases h; exact Safe.guarded fun _ => (acceptQuad_safe s q).trans (serve_safe _)
    | drumBurstClose => cases h; exact Safe.guarded fun _ => (closeBurst_safe s).trans (serve_safe _)
    | htsSample high => cases h; exact Safe.guarded fun _ => ⟨id, id, id, id, id⟩
    | mismatchTimerExpiry => cases h; exact Safe.guarded fun _ => mismatchPasses_safe s
    | mainSecond mv b => cases h; exact Safe.guarded fun _ => (secondEnds_safe s mv b).trans (serve_safe _)
    | thermistorConversion code => cases h; exact Safe.guarded fun _ => (conversion_safe s code).trans (serve_safe _)
    | phaseClockSecond => cases h; exact Safe.guarded fun _ => (clockSecond_safe s).trans (serve_safe _)
    | restExpiry => cases h; exact Safe.guarded fun _ => (restOver_safe s).trans (serve_safe _)
    | tumbleAckTimeout => cases h; exact Safe.guarded fun _ => (missPulse_safe s).trans (serve_safe _)
    | tumbleComplete => cases h; exact Safe.guarded fun _ => (completePulse_safe s).trans (serve_safe _)
    | recoveryEnd => cases h; exact Safe.guarded fun _ => (enterRest_safe s _).trans (serve_safe _)
    | entryCommit => cases h; exact Safe.guarded fun _ => entryWork_safe s
    | settingsWriteComplete r => cases h; exact Safe.guarded fun _ => settingsWork_safe s r
    | scanComplete => cases h; exact Safe.guarded fun _ => (scanEnds_safe s).trans (serve_safe _)
    | sample o q code mv => cases h; exact Safe.guarded fun _ => (takeSample_safe s _ q code mv).trans (serve_safe _)
    | flushComplete => cases h; exact Safe.guarded fun _ => (endFlush_safe s).trans (serve_safe _)
    | outageTimerSecond => cases h; exact Safe.guarded fun _ => timerSecond_safe s
    | _ => exact nomatch hf

theorem step_safe {s t : State} (h : step s = .next t) : Safe s t := by
  unfold step at h
  split at h
  · cases h; exact tick_safe s
  · exact (exec_safe _ _ t h).after ⟨id, id, id, id, id⟩

/-! ### The obligations -/

/-- Settles O8: a step is safe. -/
theorem recordStaysInRange : Obligations.RecordStaysInRange := fun _ _ hs h => (step_safe h).record hs

/-- Settles O9: a step is safe. -/
theorem talliesStayIn24Bits : Obligations.TalliesStayIn24Bits := fun _ _ hs h => (step_safe h).tallies hs

/-- Settles O12: a step is safe. -/
theorem alertsStaySound : Obligations.AlertsStaySound := fun _ _ hs h => (step_safe h).alerts hs

/-- Settles O13: a step is safe. -/
theorem watchStaysSound : Obligations.WatchStaysSound := fun _ _ hs h => (step_safe h).watch hs

/-- Every request is of one of six origins or of one of two ports' settings. -/
theorem length_eq_sources (q : List Request) : q.length =
    q.countP (Request.isOrigin .panel) + q.countP (Request.isOrigin .drive) + q.countP (Request.isOrigin .phase)
      + q.countP (Request.isOrigin .tally) + q.countP (Request.isOrigin .resume) + q.countP (Request.isOrigin .lastgasp)
      + q.countP (Request.isSettings .panel) + q.countP (Request.isSettings .drive) := by
  induction q with
  | nil => rfl
  | cons r rest ih =>
    simp only [List.length_cons, List.countP_cons, ih]
    cases r with
    | journal o b => cases o <;> simp [Request.isOrigin, Request.isSettings] <;> omega
    | settings p it w => cases p <;> simp [Request.isOrigin, Request.isSettings] <;> omega

/-- Settles O10: a step is safe, and eight sources have one request each at most. -/
theorem queueKeepsOneRequestPerSource : Obligations.QueueKeepsOneRequestPerSource := by
  refine ⟨fun s t hs h => (step_safe h).queue hs, fun s ⟨ho, hp⟩ => ?_⟩
  have hlen := length_eq_sources s.engine.queue
  have h1 := ho .panel
  have h2 := ho .drive
  have h3 := ho .phase
  have h4 := ho .tally
  have h5 := ho .resume
  have h6 := ho .lastgasp
  have h7 := hp .panel
  have h8 := hp .drive
  omega

end Sys2Proof.Machine
end

section
/-! PROOFS. What commands leave alone: the queue of waiting commands (O4), the other port and, where a frame is refused, the whole
state (O6), everything without the main domain (O7); the ports' invariant (O11), the step itself (O1, O2), the reset (O3, O15) and
gaps (O20). -/

set_option Elab.async false

namespace Sys2Proof.Machine

/-! ### What the block that a frame is handed to may change -/

/-- From `s` to `t` a frame on port `p` leaves the waiting commands, and of the other port all but its pending alerts. -/
structure Framed (p : Port) (s t : State) : Prop where
  pending : t.pending = s.pending
  port : ∀ q, q ≠ p → t.port q = s.port q
  mask : ∀ q, q ≠ p → (t.alerts q).mask = (s.alerts q).mask
  levels : ∀ q, q ≠ p → (t.alerts q).levels = (s.alerts q).levels
  taken : ∀ q, q ≠ p → (t.alerts q).taken = (s.alerts q).taken

namespace Framed

variable {p : Port} {s t u : State}

theorem refl (p : Port) (s : State) : Framed p s s := ⟨rfl, fun _ _ => rfl, fun _ _ => rfl, fun _ _ => rfl, fun _ _ => rfl⟩

theorem trans (h : Framed p s t) (k : Framed p t u) : Framed p s u :=
  ⟨k.pending.trans h.pending, fun q hq => (k.port q hq).trans (h.port q hq), fun q hq => (k.mask q hq).trans (h.mask q hq),
   fun q hq => (k.levels q hq).trans (h.levels q hq), fun q hq => (k.taken q hq).trans (h.taken q hq)⟩

theorem of_keeps (p : Port) (h : Keeps s t) : Framed p s t := by
  refine ⟨h.pending, fun q _ => ?_, fun q _ => ?_, fun q _ => ?_, fun q _ => ?_⟩ <;> cases q
  · exact h.panelPort
  · exact h.drivePort
  · exact h.panelMask
  · exact h.driveMask
  · exact h.panelLevels
  · exact h.driveLevels
  · exact h.panelTaken
  · exact h.driveTaken

theorem of_setPort (p : Port) (s : State) (q : PortState) : Framed p s (s.setPort p q) := by
  cases p
  · refine ⟨rfl, fun q hq => ?_, fun q _ => ?_, fun q _ => ?_, fun q _ => ?_⟩ <;> cases q <;> trivial
  · refine ⟨rfl, fun q hq => ?_, fun q _ => ?_, fun q _ => ?_, fun q _ => ?_⟩ <;> cases q <;> trivial

theorem of_setAlerts (p : Port) (s : State) (a : Alerts) : Framed p s (s.setAlerts p a) := by
  cases p
  · refine ⟨rfl, fun q _ => ?_, fun q hq => ?_, fun q hq => ?_, fun q hq => ?_⟩ <;> cases q <;> trivial
  · refine ⟨rfl, fun q _ => ?_, fun q hq => ?_, fun q hq => ?_, fun q hq => ?_⟩ <;> cases q <;> trivial

end Framed

/-- What an owning block may reply to a frame on port `p`: its state is framed, and where it refuses nothing but the counter of
free values moves. -/
structure Reply.Owned (p : Port) (s : State) (r : Reply) : Prop where
  framed : Framed p s r.st
  refused : r.result.takes = false → ∃ n, r.st = { s with freeCount := n }

namespace Reply.Owned

variable {p : Port} {s : State}

/-- The state stands, with any result. -/
theorem stands (r : Result) (d : Word) : Reply.Owned p s ⟨s, r, d⟩ := ⟨Framed.refl p s, fun _ => ⟨_, rfl⟩⟩

theorem free (r : Result) : Reply.Owned p s (answeredFree r s) := ⟨Framed.of_keeps p Keeps.upd, fun _ => ⟨_, rfl⟩⟩

/-- A taken frame. -/
theorem taken {r : Reply} (hr : r.result.takes = true) (h : Framed p s r.st) : Reply.Owned p s r :=
  ⟨h, fun hn => Bool.noConfusion (hr.symm.trans hn)⟩

theorem ite {c : Prop} [Decidable c] {a b : Reply} (ha : Reply.Owned p s a) (hb : Reply.Owned p s b) :
    Reply.Owned p s (if c then a else b) := by
  split
  · exact ha
  · exact hb

/-- Either branch takes. -/
theorem takes_ite {c : Prop} [Decidable c] : (if c then Result.ok else Result.clamped).takes = true := by
  split <;> rfl

end Reply.Owned

section

open Reply.Owned (stands free taken ite takes_ite)

variable (p : Port) (cls : Code) (idx : Index) (data : Word) (s : State)

theorem dealNop_owned : (dealNop p s).Owned p s := by
  unfold dealNop
  split
  · exact stands _ _
  · exact ite (stands _ _) (stands _ _)

/-- A refused READ leaves the latch: only a tally's value moves it, where it is taken. -/
theorem afterRead_of_refused (h : (readObject s p cls idx data).1.takes = false) : afterRead s p cls idx = s := by
  unfold afterRead
  split
  · rename_i hc
    subst hc
    have hlatch : latchAfterRead s p (tallyPart idx.toNat) = (s.port p).latch := by
      change (readTally s p (tallyPart idx.toNat)).1.takes = false at h
      unfold latchAfterRead
      split
      · rename_i hb
        cases hpart : tallyPart idx.toNat with
        | low t => simp [hpart, readTally, hb, readNat, Result.takes] at h
        | high t => simp [hpart, readTally, hb, readNat, Result.takes] at h
        | _ => rfl
      · rfl
    rw [hlatch]
    cases p <;> rfl
  · rfl

theorem dealRead_owned : (dealRead p cls idx data s).Owned p s := by
  refine ⟨?_, fun h => ⟨s.freeCount, ?_⟩⟩
  · change Framed p s (afterRead s p cls idx)
    unfold afterRead
    split
    · exact Framed.of_setPort p s _
    · exact Framed.refl p s
  · exact afterRead_of_refused p cls idx data s h

theorem dealMonitor_owned : (dealMonitor p cls data s).Owned p s := by
  unfold dealMonitor
  refine ite (stands _ _) ?_
  split
  · exact taken rfl ((Framed.of_setPort p s _).trans (Framed.of_keeps p Keeps.upd))
  · exact stands _ _

variable {p s} in
theorem liveWrite_owned {owner : Port} {i : Nat} {open' : Bool} {take : State → Reply} (h : (take s).Owned p s) :
    (liveWrite owner p i open' take s).Owned p s :=
  ite (free _) (ite (stands _ _) (ite (stands _ _) h))

theorem takeProgramme_owned : (takeProgramme data s).Owned p s := by
  unfold takeProgramme
  split
  · exact taken rfl (Framed.of_keeps p Keeps.upd)
  · exact stands _ _

theorem takeOptions_owned : (takeOptions data s).Owned p s := ite (taken rfl (Framed.of_keeps p Keeps.upd)) (stands _ _)

theorem storeRunReq_keeps (r : RunReq) : Keeps s (storeRunReq r s) :=
  Keeps.ite (Keeps.refl s) (Keeps.ite Keeps.upd (Keeps.trans Keeps.upd (suspendSched_keeps _)))

theorem cancelProgramme_keeps : Keeps s (cancelProgramme s) :=
  Keeps.ite Keeps.upd ((changeToDone_keeps s _).trans (serve_keeps _))

theorem takeRunReq_owned : (takeRunReq data s).Owned p s := by
  unfold takeRunReq
  refine ite (taken rfl (Framed.of_keeps p (cancelProgramme_keeps s))) ?_
  split
  · exact taken rfl (Framed.of_keeps p (storeRunReq_keeps s _))
  · exact stands _ _

theorem takePhase_owned : (takePhase data s).Owned p s := by
  unfold takePhase
  split
  · exact ite (taken rfl (Framed.of_keeps p ((changePhase_keeps s _).trans (serve_keeps _)))) (stands _ _)
  · exact stands _ _

theorem takeDeficit_owned : (takeDeficit data s).Owned p s := taken takes_ite (Framed.of_keeps p Keeps.upd)

theorem dealWriteLive_owned (i : Nat) : (dealWriteLive p i data s).Owned p s := by
  unfold dealWriteLive
  split
  · exact liveWrite_owned (takeProgramme_owned p data s)
  · exact liveWrite_owned (takeOptions_owned p data s)
  · exact liveWrite_owned (takeRunReq_owned p data s)
  · exact liveWrite_owned (takePhase_owned p data s)
  · exact liveWrite_owned (takeDeficit_owned p data s)
  · exact ite (stands _ _) (ite (free _) (ite (free _) (stands _ _)))

theorem dealTallyValue_owned (t : Fin 6) (high : Bool) : (dealTallyValue p t high data s).Owned p s := by
  refine ite (stands _ _) (ite (stands _ _) (ite (stands _ _) ?_))
  cases high
  · exact taken rfl (Framed.of_keeps p Keeps.upd)
  · exact taken takes_ite (Framed.of_keeps p Keeps.upd)

theorem dealWriteTally_owned (i : Nat) : (dealWriteTally p i data s).Owned p s := by
  unfold dealWriteTally
  split
  · exact dealTallyValue_owned p data s _ _
  · exact dealTallyValue_owned p data s _ _
  · exact ite (stands _ _) (ite (stands _ _) (ite (stands _ _) (taken rfl (Framed.of_keeps p Keeps.upd))))
  · exact stands _ _
  · exact stands _ _

theorem refusedSetting_owned (it : Item) (r : Result) : (refusedSetting it r s).Owned p s := by
  unfold refusedSetting
  split
  · exact ite (stands _ _) (free _)
  · exact stands _ _

/-- A value that fits its range is taken, as it is or held. -/
theorem fitValue_takes {g : Range} {w : Word} {r : Result} {v : Word} (h : fitValue g w = some (r, v)) : r.takes = true := by
  cases g with
  | enum m =>
    simp only [fitValue] at h
    split at h <;> cases h
    rfl
  | num lo hi =>
    simp only [fitValue] at h
    split at h
    · cases h; rfl
    · split at h <;> cases h <;> rfl
  | temp =>
    simp only [fitValue] at h
    split at h
    · cases h; rfl
    · split at h <;> cases h <;> rfl

theorem dealSettingAt_owned (it : Option Item) : (dealSettingAt p it data s).Owned p s := by
  cases it with
  | none => exact stands _ _
  | some it =>
    refine ite (refusedSetting_owned p s it _) (ite (refusedSetting_owned p s it _) ?_)
    split
    · exact refusedSetting_owned p s it _
    · refine ite (taken (fitValue_takes ‹_›) (Framed.of_keeps p ?_)) (refusedSetting_owned p s it _)
      exact Keeps.trans Keeps.upd (serve_keeps (requestSettings p it _ s))

theorem dealTakeAlert_owned : (dealTakeAlert p cls s).Owned p s := by
  unfold dealTakeAlert
  refine ite (stands _ _) ?_
  split
  · exact stands _ _
  · exact taken rfl (Framed.of_setAlerts p s _)

theorem dealSetMask_owned : (dealSetMask p cls data s).Owned p s :=
  ite (stands _ _) (taken takes_ite (Framed.of_setAlerts p s _))

theorem dealAlertLevel_owned (i : Nat) : (dealAlertLevel p i data s).Owned p s := by
  unfold dealAlertLevel
  split
  · exact taken takes_ite (Framed.of_setAlerts p s _)
  · exact stands _ _

theorem dealWrite_owned : (dealWrite p cls idx data s).Owned p s := by
  unfold dealWrite
  split
  · exact dealWriteLive_owned p data s _
  · exact dealWriteTally_owned p data s _
  · exact dealSettingAt_owned p data s _
  · exact dealAlertLevel_owned p data s _
  · exact dealSettingAt_owned p data s _
  · exact dealSettingAt_owned p data s _
  · exact dealSettingAt_owned p data s _
  all_goals exact stands _ _

theorem dealCheckpoint_owned : (dealCheckpoint p cls s).Owned p s :=
  ite (stands _ _) (ite (stands _ _) (ite (stands _ _) (ite (stands _ _)
    (taken rfl (Framed.of_keeps p (Keeps.trans (Keeps.ite (request_keeps s _) (makeLastGasp_keeps s)) (serve_keeps _)))))))

theorem dealConfirm_owned : (dealConfirm p cls s).Owned p s :=
  ite (stands _ _) (ite (stands _ _) (ite (stands _ _)
    (taken rfl (Framed.of_keeps p (Keeps.trans (recomputeConfirm_keeps s) (serve_keeps _))))))

theorem dealAccept_owned : (dealAccept p cls data s).Owned p s := by
  refine ite (stands _ _) (ite (stands _ _) (ite (stands _ _) ?_))
  split
  · exact stands _ _
  · exact ite (stands _ _)
      (taken rfl (Framed.of_keeps p (Keeps.trans (Keeps.trans (apply_keeps s _) (close_keeps _)) (serve_keeps _))))

theorem dealDecline_owned : (dealDecline p cls s).Owned p s :=
  ite (stands _ _) (ite (stands _ _) (ite (stands _ _)
    (taken rfl (Framed.of_keeps p (Keeps.trans (Keeps.trans (writeDone_keeps s _) (close_keeps _)) (serve_keeps _))))))

theorem dealTumbleAck_owned : (dealTumbleAck p cls s).Owned p s :=
  ite (stands _ _) (ite (stands _ _) (ite (stands _ _)
    (taken rfl (Framed.of_keeps p (Keeps.trans (Keeps.trans Keeps.upd (deliver_keeps _ _ _)) (serve_keeps (acknowledge s)))))))

theorem dealFrame_owned (w : Frame) : (dealFrame p w s).Owned p s := by
  unfold dealFrame
  dsimp only
  split
  · exact dealNop_owned p s
  · exact dealRead_owned p _ _ _ s
  · exact dealWrite_owned p _ _ _ s
  · exact dealCheckpoint_owned p _ s
  · exact dealTakeAlert_owned p _ s
  · exact dealSetMask_owned p _ _ s
  · exact dealConfirm_owned p _ s
  · exact dealAccept_owned p _ _ s
  · exact dealDecline_owned p _ s
  · exact ite (stands _ _) (taken rfl (Framed.of_keeps p Keeps.upd))
  · exact ite (stands _ _) (taken rfl (Framed.of_keeps p Keeps.upd))
  · exact dealMonitor_owned p _ _ s
  · exact dealTumbleAck_owned p _ s
  · exact stands _ _

theorem receiveFrame_framed (w : Frame) : Framed p s (receiveFrame p w s) := by
  unfold receiveFrame frameIn
  split
  · split
    · split
      · exact Framed.of_setPort p s _
      · exact ((Framed.of_setPort p s _).trans (dealFrame_owned p _ w).framed).trans (Framed.of_setPort p _ _)
    · exact Framed.of_setPort p s _
  · exact Framed.refl p s

end

end Sys2Proof.Machine
end

section
/-! PROOFS. Frames, events and steps: what they leave alone (O4, O6, O7), the ports' invariant (O11), the step itself (O1, O2), the
reset (O3, O15) and gaps (O20). -/

set_option Elab.async false

namespace Sys2Proof.Machine

/-! ### Frames (O6) -/

theorem exec_frameWhileDesynced_eq (p : Port) (w : Frame) (s : State) :
    exec (.frameWhileDesynced p w) s = .next (receiveFrame p w s) := exec_of_frame s rfl

/-- A frame that a port takes: the state is the block's, with its answer in the port. -/
theorem receiveFrame_taken {p : Port} {w : Frame} {s : State} (ht : takesFrames p s) (hw : w ≠ allOnesFrame) :
    receiveFrame p w s = loadAnswer p w (dealFrame p w (s.unmarked p)) := frameIn_of_takesFrames ht hw _

/-- The answer that a reply loads. -/
theorem loadAnswer_resp (p : Port) (w : Frame) (r : Reply) :
    ((loadAnswer p w r).port p).resp = some (answerFor w r.result r.data) := by
  cases p <;> rfl

/-- A reply that moved nothing but the counter of free values loads its answer, and moves nothing else. -/
theorem loadAnswer_of_stood {p : Port} {w : Frame} {s : State} {r : Reply} {n : Nat}
    (h : r.st = { s.unmarked p with freeCount := n }) :
    loadAnswer p w r = { s.withAnswer p (answerFor w r.result r.data) with freeCount := (loadAnswer p w r).freeCount } := by
  unfold loadAnswer
  rw [h]
  cases p <;> rfl

/-- An answer loaded after the port's latch was replaced. -/
theorem loadAnswer_latch (p : Port) (w : Frame) (s : State) (l : Option (Fin 6 × Nat)) (r : Result) (d : Word) :
    loadAnswer p w ⟨(s.unmarked p).setPort p { (s.unmarked p).port p with latch := l }, r, d⟩ =
      s.setPort p { s.port p with allOnes := false, resp := some (answerFor w r d), latch := l } := by
  cases p <;> rfl

/-- An answer loaded after a reply that moved nothing. -/
theorem loadAnswer_unmarked (p : Port) (w : Frame) (s : State) (r : Result) (d : Word) :
    loadAnswer p w ⟨s.unmarked p, r, d⟩ = s.withAnswer p (answerFor w r d) := by
  cases p <;> rfl

/-- A READ on a port that takes frames. -/
theorem receiveFrame_read {p : Port} {s : State} (ht : takesFrames p s) (cls : Code) (idx : Index) (data : Word) :
    ∃ a latch, receiveFrame p (frameOf 1 cls idx data) s =
        s.setPort p { s.port p with allOnes := false, resp := some a, latch := latch }
      ∧ (cls ≠ 2 → latch = (s.port p).latch) := by
  rw [receiveFrame_taken ht (frameOf_ne_allOnes 1 cls idx data (by decide)), dealFrame_read]
  unfold dealRead afterRead
  generalize readObject (s.unmarked p) p cls idx data = x
  split
  · exact ⟨_, _, loadAnswer_latch p _ s _ _ _, fun h => absurd ‹_› h⟩
  · exact ⟨_, _, loadAnswer_unmarked p _ s _ _, fun _ => rfl⟩

/-- Settles O6: the block that a frame reaches is framed, and a refusal moves nothing but the counter of free values. -/
theorem framesChangeNothingElse : Obligations.FramesChangeNothingElse := by
  refine ⟨fun p w s t a ht hw he ha hr => ?_, fun p cls idx data s ht => ?_, fun p q w s t hq he => ?_⟩
  · rw [exec_frameWhileDesynced_eq, receiveFrame_taken ht hw] at he
    obtain rfl := Host.Outcome.next.inj he
    rw [loadAnswer_resp] at ha
    obtain rfl := Option.some.inj ha
    obtain ⟨n, hn⟩ := (dealFrame_owned p (s.unmarked p) w).refused hr
    exact loadAnswer_of_stood hn
  · obtain ⟨a, latch, hread, hlatch⟩ := receiveFrame_read ht cls idx data
    exact ⟨a, latch, by rw [exec_frameWhileDesynced_eq, hread], hlatch⟩
  · rw [exec_frameWhileDesynced_eq] at he
    obtain rfl := Host.Outcome.next.inj he
    have h := receiveFrame_framed p s w
    exact ⟨h.port q hq, h.mask q hq, h.levels q hq, h.taken q hq⟩

/-! ### Without the main domain (O7) -/

theorem receiveFrame_stopped {p : Port} {w : Frame} {s : State} (h : s.mainRunning = false) : receiveFrame p w s = s := by
  simp [receiveFrame, frameIn, h]

/-- Settles O7: a frame meets no port, and every other command of the main domain asks first whether it runs. -/
theorem stoppedMainDomainDoesNothing : Obligations.StoppedMainDomainDoesNothing := by
  intro c s hs hc
  cases hf : c.frame with
  | some pw =>
    obtain ⟨p, w⟩ := pw
    rw [exec_of_frame s hf, receiveFrame_stopped hs]
  | none =>
    have hrun : ¬(s.mainRunning = true) := by rw [hs]; exact Bool.false_ne_true
    have hskip {k : Prop} [Decidable k] {a : State} (hk : k → s.mainRunning = true) :
        (Host.Outcome.next (if k then a else s) : Out) = .next s := congrArg _ (if_neg fun h => hrun (hk h))
    have hsched (st : SchedState) : s.schedIn st = true → s.mainRunning = true := by
      intro h
      simp only [State.schedIn, Bool.and_eq_true] at h
      exact h.1.1
    cases c with
    | zeroCrossPulse a => exact hskip id
    | doorFirstAdoption o => exact hskip id
    | doorChange o => exact hskip id
    | quadFirstAdoption q => exact hskip id
    | quadStep q => exact hskip id
    | quadIllegalJump q => exact hskip id
    | drumBurstClose => exact hskip id
    | htsSample high => exact hskip id
    | mainSecond mv b => exact hskip id
    | thermistorConversion code => exact hskip id
    | entryCommit => exact hskip id
    | settingsWriteComplete r => exact hskip id
    | rstnAssertion cut => exact hskip id
    | frameGap p bits => exact hskip And.left
    | lossDeclaration => exact hskip And.left
    | qualificationWithdrawn => exact hskip And.left
    | lastGaspWindowExpiry => exact hskip And.left
    | mismatchTimerExpiry => exact hskip And.left
    | phaseClockSecond => exact hskip And.left
    | scanComplete => exact hskip And.left
    | restExpiry => exact hskip (hsched _)
    | tumbleAckTimeout => exact hskip (hsched _)
    | tumbleComplete => exact hskip (hsched _)
    | recoveryEnd => exact hskip (hsched _)
    | rstnRelease _ => exact hc.elim
    | coldStart _ => exact hc.elim
    | backupOnlyStart => exact hc.elim
    | warmReturn _ => exact hc.elim
    | vddCollapse _ => exact hc.elim
    | vbkLoss => exact hc.elim
    | sample _ _ _ _ => exact hc.elim
    | flushComplete => exact hc.elim
    | outageTimerSecond => exact hc.elim
    | _ => exact nomatch hf

/-! ### Events: the waiting commands and the ports -/

/-- From `s` to `t` an event leaves the waiting commands, and both ports unless it starts or ends the main domain. -/
structure Eventful (s t : State) : Prop where
  pending : t.pending = s.pending
  ports : (t.panelPort = s.panelPort ∧ t.drivePort = s.drivePort) ∨ (t.panelPort = PortState.start ∧ t.drivePort = PortState.start)

namespace Eventful

variable {s t u : State}

theorem refl (s : State) : Eventful s s := ⟨rfl, .inl ⟨rfl, rfl⟩⟩

theorem of_keeps (h : Keeps s t) : Eventful s t := ⟨h.pending, .inl ⟨h.panelPort, h.drivePort⟩⟩

theorem trans (h : Eventful s t) (k : Eventful t u) : Eventful s u := by
  refine ⟨k.pending.trans h.pending, ?_⟩
  rcases k.ports with ⟨kp, kd⟩ | hk
  · rw [kp, kd]
    exact h.ports
  · exact .inr hk

/-- As `trans`, with the later of the two first. -/
theorem after (k : Eventful t u) (h : Eventful s t) : Eventful s u := h.trans k

theorem ite {c : Prop} [Decidable c] {a b : State} (h : Eventful s a) (k : Eventful s b) :
    Eventful s (if c then a else b) := by
  split
  · exact h
  · exact k

theorem guarded {c : Prop} [Decidable c] {a : State} (h : Eventful s a) : Eventful s (if c then a else s) := ite h (refl s)

/-- An update of other parts. -/
theorem upd (h : t.pending = s.pending ∧ t.panelPort = s.panelPort ∧ t.drivePort = s.drivePort) : Eventful s t :=
  ⟨h.1, .inl h.2⟩

end Eventful

section

variable (s : State)

theorem cutWrite_eventful (cut : CutStep) : Eventful s (cutWrite cut s) := by
  have h (u : State) (b : Bool) (hu : Eventful s u) : Eventful s { u with seq.backupFlush := b } :=
    hu.trans (Eventful.upd ⟨rfl, rfl, rfl⟩)
  unfold cutWrite
  refine h _ _ ?_
  split
  · exact Eventful.upd ⟨rfl, rfl, rfl⟩
  · exact Eventful.refl s

theorem clearMain_eventful : Eventful s (clearMain s) := ⟨rfl, .inr ⟨rfl, rfl⟩⟩

theorem mainStart_eventful (mv : Nat) : Eventful s (mainStart mv s) := by
  have h : Eventful s { clearMain s with sensing := { (clearMain s).sensing with backupMv := some (measuredMv mv) } } :=
    (clearMain_eventful s).trans (Eventful.upd ⟨rfl, rfl, rfl⟩)
  exact Eventful.ite (h.trans (Eventful.upd ⟨rfl, rfl, rfl⟩)) h

theorem collapse_eventful (cut : CutStep) : Eventful s (collapse cut s) := by
  have h : Eventful s (clearMain (if s.mainRunning then cutWrite cut s else s)) :=
    (Eventful.guarded (cutWrite_eventful s cut)).trans (clearMain_eventful _)
  have h2 : Eventful s { clearMain (if s.mainRunning then cutWrite cut s else s) with vdd := false, rstn := false } :=
    h.trans (Eventful.upd ⟨rfl, rfl, rfl⟩)
  exact Eventful.ite (h2.trans (Eventful.of_keeps (watchEntry_keeps _))) h2

theorem assertReset_eventful (cut : CutStep) : Eventful s (assertReset cut s) := by
  have h : Eventful s { clearMain (cutWrite cut s) with rstn := true } :=
    ((cutWrite_eventful s cut).trans (clearMain_eventful _)).trans (Eventful.upd ⟨rfl, rfl, rfl⟩)
  exact Eventful.ite (h.trans (Eventful.upd ⟨rfl, rfl, rfl⟩)) (h.trans (Eventful.upd ⟨rfl, rfl, rfl⟩))

theorem raiseDone_keeps (o : Origin) : Keeps s (raiseDone o s) := by
  cases o with
  | panel => exact raiseOn_keeps s _ _
  | drive => exact raiseOn_keeps s _ _
  | _ => exact raiseBoth_keeps s _

theorem commitEffects_keeps (o : Origin) : Keeps s (commitEffects o s) := by
  cases o with
  | tally => exact Keeps.upd
  | lastgasp => exact Keeps.ite (endFading_keeps s) Keeps.upd
  | _ => exact Keeps.refl s

theorem entryWork_eventful : Eventful s (entryWork s) := by
  unfold entryWork
  split
  · rename_i pos n o snap _
    have h1 : Eventful s { s with journal := s.journal.set pos (committedSlot n o snap), engine.work := .idle } :=
      Eventful.upd ⟨rfl, rfl, rfl⟩
    exact (h1.trans (Eventful.of_keeps ((raiseDone_keeps _ o).trans (commitEffects_keeps _ o)))).trans
      (Eventful.of_keeps (serve_keeps _))
  · exact Eventful.refl s

theorem workingField_keeps (it : Item) (w : Word) : Keeps s (workingField it w s) := by
  cases it with
  | tallyCtl t f => exact Keeps.upd
  | _ => exact Keeps.refl s

theorem settingsWork_eventful (r : Word) : Eventful s (settingsWork r s) := by
  unfold settingsWork
  split
  · rename_i p it w _
    have h1 : Eventful s { s with settings := s.settings.put it r, engine.work := .idle } := Eventful.upd ⟨rfl, rfl, rfl⟩
    exact ((h1.trans (Eventful.of_keeps (Keeps.trans (workingField_keeps _ it r) Keeps.upd))).trans
      (Eventful.of_keeps (raiseOn_keeps _ _ _))).trans (Eventful.of_keeps (serve_keeps _))
  · exact Eventful.refl s

theorem scanEnds_keeps : Keeps s (scanEnds s) := by
  rw [scanEnds_eq]
  have hread : Keeps s (scanRead s) := Keeps.ite Keeps.upd Keeps.upd
  have hkey (n : Option Word) : Keeps s (keyAtScan n (scanRead s)) := hread.trans (Keeps.ite Keeps.upd (Keeps.refl _))
  have heval (k : Kept) (u : State) : Keeps u (evaluate k u) :=
    Keeps.trans (Keeps.trans (adoption_keeps u k.newest) (endEvaluation_keeps _ k)) Keeps.upd
  have hbuild (e : Option Entry) (u : State) : Keeps u (buildWithoutChain e u) := Keeps.upd
  exact Keeps.ite ((hkey _).trans (heval _ _)) ((hkey _).trans (hbuild _ _))

theorem takeSample_keeps (d : Door) (q : Quad) (code : BitVec 10) (mv : Nat) : Keeps s (takeSample d q code mv s) := by
  have hburst (m : Option QuadMove) : Keeps s (sampleBurst m s) := by
    unfold sampleBurst
    split
    · exact closeSeqBurst_keeps s
    · exact closeSeqBurst_keeps s
    · exact Keeps.refl s
    · exact Keeps.refl s
  have hdoor (n : Nat) (u : State) : Keeps u (sampleDoor d n u) := by
    unfold sampleDoor
    dsimp only
    split <;> split <;> exact Keeps.upd
  have hquad (m : Option QuadMove) (u : State) : Keeps u (sampleQuad m q u) := by
    unfold sampleQuad
    dsimp only
    split <;> exact Keeps.upd
  have htherm (u : State) : Keeps u (sampleTherm code u) := Keeps.ite Keeps.upd (Keeps.ite (Keeps.refl u) Keeps.upd)
  have hvbk (v : Nat) (u : State) : Keeps u (sampleVbk v u) := Keeps.ite Keeps.upd Keeps.upd
  have hpace (a b : Bool) (u : State) : Keeps u (settlePace a b u) := Keeps.upd
  have hflush (u : State) : Keeps u (enterFlushing u) := (closeSeqBurst_keeps u).trans Keeps.upd
  have h := (((((hburst (sampleMove s.refs q)).trans (hdoor s.seq.interval _)).trans (hquad (sampleMove s.refs q) _)).trans
    (htherm _)).trans (hvbk (measuredMv mv) _)).trans
    (hpace (sampleDoorChange s.refs d || ((sampleMove s.refs q).map QuadMove.isMove).getD false) (sampleTempChange code s) _)
  exact Keeps.ite (h.trans (hflush _)) h

theorem endFlush_eventful : Eventful s (endFlush s) := by
  unfold endFlush
  split
  · exact Eventful.refl s
  · exact Eventful.upd ⟨rfl, rfl, rfl⟩

theorem conversion_eventful (code : BitVec 10) : Eventful s (conversion code s) := by
  have hvalid (t : Int) (u : State) : Eventful u (validConversion t u) := by
    unfold validConversion
    dsimp only
    split <;> exact Eventful.upd ⟨rfl, rfl, rfl⟩
  have hfault (u : State) : Eventful u (faultEntry u) := by
    have h : Eventful u { u with
      sensing.fault := true
      sensing.faultAsLogger := u.logger
      panelAlerts := u.panelAlerts.faultEnters
      driveAlerts := u.driveAlerts.faultEnters } := Eventful.upd ⟨rfl, rfl, rfl⟩
    exact Eventful.ite (h.trans (Eventful.of_keeps (senseItem_keeps _ _ _))) h
  have h2 : Eventful s { s with sensing.convCode := some code, lpr.stale := true } := Eventful.upd ⟨rfl, rfl, rfl⟩
  exact Eventful.ite ((hvalid _ _).after (Eventful.upd ⟨rfl, rfl, rfl⟩)) (Eventful.ite h2 (h2.trans (hfault _)))

theorem clockSecond_keeps : Keeps s (clockSecond s) :=
  Keeps.trans (Keeps.trans Keeps.upd (deliver_keeps _ _ _)) (Keeps.ite (windowTest_keeps _) (Keeps.refl _))

theorem missPulse_keeps : Keeps s (missPulse s) :=
  Keeps.ite (Keeps.trans Keeps.upd (endOwn_keeps _ _)) (Keeps.trans Keeps.upd (enterRest_keeps _ _))

theorem completePulse_keeps : Keeps s (completePulse s) := Keeps.trans Keeps.upd (enterRest_keeps _ _)

theorem windowExpires_keeps : Keeps s (windowExpires s) := by
  unfold windowExpires
  split
  · exact makeLastGasp_keeps s
  · exact endFading_keeps s
  · exact Keeps.upd

end

/-- A shared operation, after which the engine takes its next work. -/
theorem Eventful.served {s t : State} {c : Prop} [Decidable c] (h : Keeps s t) : Eventful s (if c then serve t else s) :=
  Eventful.guarded (Eventful.of_keeps (h.trans (serve_keeps _)))

/-- Every command but frames and gaps. -/
theorem exec_eventful (c : Instr) (s t : State) (hf : c.frame = none) (hg : ∀ p n, c ≠ .frameGap p n)
    (h : exec c s = .next t) : Eventful s t := by
  cases c with
  | frameGap p bits => exact absurd rfl (hg p bits)
  | zeroCrossPulse a => cases h; exact Eventful.served (pulse_keeps s a)
  | lossDeclaration => cases h; exact Eventful.served (loss_keeps s)
  | qualificationWithdrawn => cases h; exact Eventful.guarded (Eventful.upd ⟨rfl, rfl, rfl⟩)
  | lastGaspWindowExpiry => cases h; exact Eventful.served (windowExpires_keeps s)
  | rstnAssertion cut => cases h; exact Eventful.guarded (assertReset_eventful s cut)
  | rstnRelease mv =>
    cases h
    exact Eventful.guarded ((mainStart_eventful { s with rstn := false } mv).after (Eventful.upd ⟨rfl, rfl, rfl⟩))
  | coldStart mv =>
    cases h
    exact Eventful.guarded ((mainStart_eventful (freshBackup { s with vdd := true, vbk := true }) mv).after
      (Eventful.upd ⟨rfl, rfl, rfl⟩))
  | backupOnlyStart => cases h; exact Eventful.guarded (Eventful.upd ⟨rfl, rfl, rfl⟩)
  | warmReturn mv =>
    cases h
    exact Eventful.guarded ((mainStart_eventful { s with vdd := true } mv).after (Eventful.upd ⟨rfl, rfl, rfl⟩))
  | vddCollapse cut => cases h; exact Eventful.guarded (collapse_eventful s cut)
  | vbkLoss => cases h; exact Eventful.guarded (Eventful.upd ⟨rfl, rfl, rfl⟩)
  | doorFirstAdoption o => cases h; exact Eventful.served (acceptDoor_keeps s _)
  | doorChange o => cases h; exact Eventful.served (acceptDoor_keeps s _)
  | quadFirstAdoption q => cases h; exact Eventful.served (acceptQuad_keeps s q)
  | quadStep q => cases h; exact Eventful.served (acceptQuad_keeps s q)
  | quadIllegalJump q => cases h; exact Eventful.served (acceptQuad_keeps s q)
  | drumBurstClose => cases h; exact Eventful.served (closeBurst_keeps s)
  | htsSample high => cases h; exact Eventful.guarded (Eventful.upd ⟨rfl, rfl, rfl⟩)
  | mismatchTimerExpiry => cases h; exact Eventful.guarded (Eventful.upd ⟨rfl, rfl, rfl⟩)
  | mainSecond mv b => cases h; exact Eventful.served (secondEnds_keeps s mv b)
  | thermistorConversion code =>
    cases h
    exact Eventful.guarded ((conversion_eventful s code).trans (Eventful.of_keeps (serve_keeps _)))
  | phaseClockSecond => cases h; exact Eventful.served (clockSecond_keeps s)
  | restExpiry => cases h; exact Eventful.served (Keeps.ite (endOwn_keeps s _) (enterDue_keeps s))
  | tumbleAckTimeout => cases h; exact Eventful.served (missPulse_keeps s)
  | tumbleComplete => cases h; exact Eventful.served (completePulse_keeps s)
  | recoveryEnd => cases h; exact Eventful.served (enterRest_keeps s _)
  | entryCommit => cases h; exact Eventful.guarded (entryWork_eventful s)
  | settingsWriteComplete r => cases h; exact Eventful.guarded (settingsWork_eventful s r)
  | scanComplete => cases h; exact Eventful.served (scanEnds_keeps s)
  | sample o q code mv => cases h; exact Eventful.served (takeSample_keeps s _ q code mv)
  | flushComplete =>
    cases h
    exact Eventful.guarded ((endFlush_eventful s).trans (Eventful.of_keeps (serve_keeps _)))
  | outageTimerSecond => cases h; exact Eventful.guarded (Eventful.upd ⟨rfl, rfl, rfl⟩)
  | _ => exact nomatch hf

theorem gapIn_pending (p : Port) (bits : Nat) (s : State) : (gapIn p bits s).pending = s.pending := by
  unfold gapIn
  dsimp only
  split
  · split
    · exact (raiseOn_keeps _ _ _).pending.trans (Framed.of_setPort p s _).pending
    · exact (Framed.of_setPort p s _).pending
  · rfl

/-- Settles O4: no frame and no event touches the waiting commands. -/
theorem commandsLeaveTheQueueAlone : Obligations.CommandsLeaveTheQueueAlone := by
  intro c s t h
  cases hf : c.frame with
  | some pw =>
    obtain ⟨p, w⟩ := pw
    cases (exec_of_frame s hf).symm.trans h
    exact (receiveFrame_framed p s w).pending
  | none =>
    cases c with
    | frameGap p bits => cases h; exact gapIn_pending p bits s
    | _ => exact (exec_eventful _ s t hf (fun _ _ => nofun) h).pending

/-! ### The ports' invariant (O11) -/

theorem PortState.start_sound : PortState.start.sound := ⟨rfl, fun _ => ⟨rfl, Nat.zero_le _⟩, nofun⟩

/-- A sound SYNCED port whose link moved at most in the mark and the answer is sound. -/
theorem PortState.sound_of_synced {q r : PortState} (h : q.sound) (hs : q.synced = true) (hb : r.bitCounter = q.bitCounter)
    (hsync : r.synced = q.synced) (hi : r.ignored = q.ignored) : r.sound :=
  ⟨hb.trans h.1, fun hn => Bool.noConfusion ((hsync.trans hs).symm.trans hn), fun _ => hi.trans (h.2.2 hs)⟩

theorem PortState.resync_sound (q : PortState) : q.resync.sound := ⟨rfl, fun h => Bool.noConfusion (h : true = false), fun _ => rfl⟩

theorem PortState.syncedAllOnes_sound {q : PortState} (h : q.sound) (hs : q.synced = true) : q.syncedAllOnes.sound := by
  unfold PortState.syncedAllOnes
  split
  · exact PortState.resync_sound _
  · exact PortState.sound_of_synced h hs rfl rfl rfl

theorem PortState.desyncedFrame_sound {q : PortState} {w : Frame} (h : q.sound) (hs : q.synced = false) :
    (q.desyncedFrame w).sound := by
  obtain ⟨hb, hd, -⟩ := h
  have hno : ∀ {r : PortState}, r.synced = q.synced → r.synced = true → r.ignored = 0 :=
    fun hr ht => Bool.noConfusion ((hr.trans hs).symm.trans ht)
  unfold PortState.desyncedFrame
  split
  · split
    · exact PortState.resync_sound q
    · exact ⟨hb, fun _ => hd hs, hno rfl⟩
  · exact ⟨hb, fun _ => ⟨(hd hs).1, Nat.min_le_left _ _⟩, hno rfl⟩

theorem PortState.gap_sound {q : PortState} (h : q.sound) : q.gap.sound := by
  unfold PortState.gap
  split
  · exact ⟨rfl, fun _ => ⟨rfl, Nat.zero_le _⟩, fun h => Bool.noConfusion (h : false = true)⟩
  · exact ⟨rfl, h.2⟩

theorem portsSound_iff (s : State) : portsSound s ↔ ∀ p, (s.port p).sound :=
  ⟨fun h p => by cases p; exacts [h.1, h.2], fun h => ⟨h .panel, h .drive⟩⟩

/-- One port replaced by a sound one. -/
theorem portsSound_setPort {s : State} {p : Port} {q : PortState} (h : portsSound s) (hq : q.sound) :
    portsSound (s.setPort p q) := by
  cases p
  · exact ⟨hq, h.2⟩
  · exact ⟨h.1, hq⟩

/-- An answer of an owning block, loaded into a SYNCED port. -/
theorem loadAnswer_portsSound {p : Port} {w : Frame} {s : State} {r : Reply} (h : portsSound s)
    (hs : (s.port p).synced = true) (howned : r.Owned p s) (hlinks : r.st.links = s.links) :
    portsSound (loadAnswer p w r) := by
  refine (portsSound_iff _).mpr fun q => ?_
  by_cases hq : q = p
  · subst hq
    have hlink := State.link_of_links hlinks q
    have hb := congrArg PortState.bitCounter hlink
    have hsync := congrArg PortState.synced hlink
    have hi := congrArg PortState.ignored hlink
    rw [loadAnswer, State.port_setPort]
    exact PortState.sound_of_synced ((portsSound_iff s).mp h q) hs hb hsync hi
  · have hload : (loadAnswer p w r).port q = r.st.port q := (Framed.of_setPort p r.st _).port q hq
    rw [hload, howned.framed.port q hq]
    exact (portsSound_iff s).mp h q

theorem receiveFrame_portsSound {p : Port} {w : Frame} {s : State} (h : portsSound s) : portsSound (receiveFrame p w s) := by
  have hp := (portsSound_iff s).mp h p
  unfold receiveFrame frameIn
  split
  · split
    · rename_i hs
      split
      · exact portsSound_setPort h (PortState.syncedAllOnes_sound hp hs)
      · have hmark : portsSound (s.setPort p ((s.port p).mark false)) :=
          portsSound_setPort h (PortState.sound_of_synced hp hs rfl rfl rfl)
        refine loadAnswer_portsSound hmark ?_ (dealFrame_owned p _ w) (dealFrame_links p _ w)
        rw [State.port_setPort]
        exact hs
    · rename_i hs
      exact portsSound_setPort h (PortState.desyncedFrame_sound hp (Bool.eq_false_iff.mpr hs))
  · exact h

theorem Keeps.portsSound {s t : State} (k : Keeps s t) (h : portsSound s) : portsSound t := by
  unfold Sys2Proof.Machine.portsSound
  rw [k.panelPort, k.drivePort]
  exact h

theorem gapIn_portsSound {p : Port} {bits : Nat} {s : State} (h : portsSound s) : portsSound (gapIn p bits s) := by
  have hg : portsSound (s.setPort p (s.port p).gap) := portsSound_setPort h (PortState.gap_sound ((portsSound_iff s).mp h p))
  unfold gapIn
  dsimp only
  split
  · split
    · exact (raiseOn_keeps _ _ _).portsSound hg
    · exact hg
  · exact h

theorem exec_portsSound {c : Instr} {s t : State} (hs : portsSound s) (h : exec c s = .next t) : portsSound t := by
  cases hf : c.frame with
  | some pw =>
    obtain ⟨p, w⟩ := pw
    cases (exec_of_frame s hf).symm.trans h
    exact receiveFrame_portsSound hs
  | none =>
    cases c with
    | frameGap p bits => cases h; exact gapIn_portsSound hs
    | _ =>
      unfold portsSound
      rcases (exec_eventful _ s t hf (fun _ _ => nofun) h).ports with ⟨hp, hd⟩ | ⟨hp, hd⟩
      · rw [hp, hd]; exact hs
      · rw [hp, hd]; exact ⟨PortState.start_sound, PortState.start_sound⟩

theorem tick_keeps (s : State) : Keeps s (tick s) :=
  Keeps.trans (Keeps.ite Keeps.upd (Keeps.refl s)) (Keeps.ite Keeps.upd (Keeps.refl (tickMain s)))

/-- Settles O11: frames move a port between sound states, and a start or end of the main domain gives both ports their start. -/
theorem portsStaySound : Obligations.PortsStaySound := by
  intro s t hs h
  unfold step at h
  split at h
  · cases h; exact (tick_keeps s).portsSound hs
  · refine exec_portsSound ?_ h
    exact hs

/-! ### The step (O1, O2) -/

/-- Settles O1: the step's own case. -/
theorem stepRunsTheFrontCommand : Obligations.StepRunsTheFrontCommand := by
  intro s c rest h
  unfold step
  rw [h]

/-- The parts of the state that a millisecond of the main domain moves. -/
theorem tickMain_eq (s : State) : tickMain s = { s with
    mains := if s.mainRunning then s.mains.tick else s.mains
    sensing := if s.mainRunning then s.sensing.tick else s.sensing
    lpr := { s.lpr with
      partMs := if s.mainRunning = true ∧ s.clockCounts = true then min 999 (s.lpr.partMs + 1) else s.lpr.partMs }
    sched := { s.sched with
      remaining := if s.mainRunning = true ∧ s.schedRuns = true ∧ s.sched.state.timed = true then s.sched.remaining - 1
        else s.sched.remaining } } := by
  unfold tickMain partSecond Sched.tick
  cases hm : s.mainRunning
  · simp
  · cases s.clockCounts <;> cases s.schedRuns <;> cases s.sched.state.timed <;> simp

theorem tickMain_timerCounts (s : State) : (tickMain s).timerCounts = s.timerCounts := by
  rw [tickMain_eq]
  unfold State.timerCounts
  cases s.mainRunning <;> rfl

theorem tickBackup_eq (s : State) : tickBackup s = { s with
    outage := { s.outage with
      partMs := if s.vbk = true ∧ s.timerCounts = true then min 999 (s.outage.partMs + 1) else s.outage.partMs }
    seq := { s.seq with
      toSample := if s.vbk = true ∧ s.seq.state = .watch then s.seq.toSample - 1 else s.seq.toSample } } := by
  unfold tickBackup partSecond Sequencer.tick
  by_cases hv : s.vbk = true
  · cases s.timerCounts <;> by_cases hq : s.seq.state = .watch <;> simp [hv, hq]
  · rw [if_neg hv, if_neg fun h => hv h.1, if_neg fun h => hv h.1]

/-- Settles O2: the timers of the two domains, each by its own rule. -/
theorem emptyQueueMovesOnlyTimers : Obligations.EmptyQueueMovesOnlyTimers := by
  intro s hs
  have hstep : step s = .next (tick s) := by
    unfold step
    rw [hs]
  rw [hstep, tick, tickBackup_eq, tickMain_timerCounts, tickMain_eq]
  rfl

/-! ### Reset (O3, O15) -/

/-- Settles O3. -/
theorem resetIsAFactoryColdStart : Obligations.ResetIsAFactoryColdStart := by
  have hmain : mainAtStart 3000 State.reset := by
    refine ⟨rfl, rfl, rfl, rfl, rfl, rfl, rfl, rfl, fun i => ?_, rfl, rfl, rfl, rfl, rfl, rfl, rfl, rfl, rfl⟩
    simp [State.reset, talliesStart, Tally.start]
  have hblank (i : Fin 16) : State.reset.journal[i].state = .blank := by revert i; decide
  exact ⟨rfl, rfl, rfl, rfl, hmain, rfl, rfl, rfl, rfl, rfl, rfl, rfl, hblank, rfl⟩

/-- Settles O15. -/
theorem resetMeetsTheInvariants : Obligations.ResetMeetsTheInvariants := by
  have hbodies (i : Fin 16) : State.reset.journal[i].body = Snapshot.blank := by simp [State.reset, Slot.factory]
  have hsnap {P : Snapshot → Prop} (h : P Snapshot.blank) : State.reset.snapshotsHave P :=
    ⟨(fun _ hr => nomatch hr), trivial, fun i => (hbodies i).symm ▸ h, fun _ hk => nomatch (hk : none = some _)⟩
  refine ⟨?_, ?_, ?_, ?_, ?_, ?_, ?_⟩
  · exact ⟨Nat.zero_le _, Nat.zero_le _, Nat.zero_le _, Nat.zero_le _,
      hsnap ⟨Nat.zero_le _, Nat.zero_le _, Nat.zero_le _, Nat.zero_le _⟩, fun _ hp => nomatch (hp : none = some _)⟩
  · refine ⟨fun i => ?_, hsnap fun i => ?_, fun h => Bool.noConfusion (h : false = true)⟩
    · simp [State.reset, talliesStart, Tally.start]
    · simp [Snapshot.blank]
  · exact ⟨fun _ => Nat.zero_le _, fun _ => Nat.zero_le _⟩
  · exact ⟨PortState.start_sound, PortState.start_sound⟩
  · exact ⟨Alerts.start_inRange, Alerts.start_inRange, rfl⟩
  · refine ⟨Nat.zero_le _, Summary.opening_inRange _, ?_, Nat.zero_le _, Nat.zero_le _, iff_of_false nofun nofun,
      fun _ hm => nomatch (hm : none = some _)⟩
    unfold Summary.inRange
    decide
  · unfold supplySound
    decide

/-! ### Gaps (O20) -/

/-- Settles O20: the port's gap, and the alert of a SYNCED one. -/
theorem gapsDesynchronise : Obligations.GapsDesynchronise := by
  intro p bits s hrun h1 h31
  have hexec : exec (.frameGap p bits) s = .next (gapIn p bits s) := rfl
  rw [hexec]
  refine ⟨fun hs => congrArg _ ?_, fun hs => congrArg _ ?_⟩
  · simp only [gapIn, hrun, h1, h31, and_self, if_true, hs, raiseOn, PortState.gap]
    cases p <;> rfl
  · simp [gapIn, hrun, h1, h31, hs, PortState.gap]

end Sys2Proof.Machine
end

section
/-! PROOFS. READs (O21, O22, O29): a READ answers what the object's table gives and leaves all but the port's answer and its tally
latch; each table index by index. -/

set_option Elab.async false

namespace Sys2Proof.Machine

/-! ### The frame of a READ -/

section

variable {p : Port} {cls : Code} {idx : Index} {data : Word} {s : State}

/-- No object's answer depends on the port's all-ones mark. -/
theorem readObject_unmarked : readObject (s.unmarked p) p cls idx data = readObject s p cls idx data := by
  cases p <;> rfl

theorem latchAfterRead_unmarked (part : TallyPart) : latchAfterRead (s.unmarked p) p part = latchAfterRead s p part := by
  cases p <;> rfl

/-- As `readGives_of`, of the state before the frame. -/
theorem readGives_of_latch {r : Result} {d : Word} (ht : takesFrames p s) (hx : readObject s p cls idx data = (r, d))
    (hr : r ≠ .clamped) (hl : cls = 2 → latchAfterRead s p (tallyPart idx.toNat) = (s.port p).latch) :
    readGives p cls idx data s r d :=
  readGives_of ht hr (readObject_unmarked.trans hx) fun hc => (latchAfterRead_unmarked _).trans (hl hc)

/-- As `readGives_of_latch`, for objects other than TALLY. -/
theorem readGives_of_object {r : Result} {d : Word} (hc : cls ≠ 2) (ht : takesFrames p s)
    (hx : readObject s p cls idx data = (r, d)) (hr : r ≠ .clamped) : readGives p cls idx data s r d :=
  readGives_of_latch ht hx hr fun h => absurd h hc

end

/-! ### Values as data -/

theorem readBool_eq (b : Bool) : readBool b = (.ok, BitVec.ofNat 16 b.toNat) := by cases b <;> rfl

theorem readOr_eq_readOpt {α : Type} (r : Result) (f : α → Word) (o : Option α) :
    readOr r (fun a => (.ok, f a)) o = readOpt r (o.map f) := by cases o <;> rfl

@[simp] theorem readOpt_eq_clamped (r : Result) (o : Option Word) : (readOpt r o).1 = .clamped ↔ o = none ∧ r = .clamped := by
  cases o <;> simp [readOpt]

theorem Options.code_eq (o : Options) : o.code =
    (if o.extended then 1 else 0) + (if o.noAnticrease then 2 else 0) + (if o.lowHeat then 4 else 0) := by
  cases o with
  | mk a b c => cases a <;> cases b <;> cases c <;> rfl

/-- The sum over the sources that `f` holds of. -/
theorem sourceSum_eq (f : Fin 13 → Bool) :
    sourceSum f = ((List.finRange 13).map fun k => if f k then 2 ^ k.val else 0).sum := by
  have hfold (l : List (Fin 13)) (n : Nat) : l.foldl (fun n i => if f i then n + 2 ^ i.val else n) n
      = n + (l.map fun k => if f k then 2 ^ k.val else 0).sum := by
    induction l generalizing n with
    | nil => rfl
    | cons a l ih =>
      rw [List.foldl_cons, ih, List.map_cons, List.sum_cons]
      split <;> omega
  exact (hfold _ 0).trans (Nat.zero_add _)

/-! ### Rows of the tables -/

section

variable (s : State)

theorem readLive_row (hb : s.built = true) (i : Fin 7) : readLive s i.val = (.ok,
    (#v[BitVec.ofNat 16 s.lpr.programme.val, BitVec.ofNat 16 s.lpr.options.code, BitVec.ofNat 16 s.lpr.runReq.code,
      BitVec.ofNat 16 s.lpr.phase.code, BitVec.ofNat 16 s.lpr.deficit, BitVec.ofNat 16 s.lpr.phaseClock,
      BitVec.ofInt 16 s.lpr.temp] : Vector Word 7)[i]) := by
  unfold readLive
  rw [if_neg (by omega), if_pos hb]
  fin_cases i <;> rfl

theorem readLive_door (hb : s.built = true) :
    readLive s 7 = readOpt .busy (s.sensing.door.map fun d => BitVec.ofNat 16 d.code) := by
  unfold readLive
  rw [if_neg (by omega), if_pos hb]
  exact readOr_eq_readOpt _ _ _

theorem readLive_unbuilt {i : Nat} (hi : i ≤ 7) (hb : s.built = false) : readLive s i = (.busy, 0) := by
  unfold readLive
  rw [if_neg (by omega), hb]
  rfl

theorem readLive_badIndex {i : Nat} (hi : 7 < i) : readLive s i = (.badIndex, 0) := if_pos hi

theorem readStatus_row (i : Fin 21) : readStatus s i.val = (.ok, BitVec.ofNat 16
    (#v[s.mains.mode.code, s.seq.state.code, s.seq.pace, s.handover.state.code, (decide (s.engine.work ≠ .idle)).toNat,
      (match s.engine.work with
        | .idle => 0
        | .scanning => 1
        | .entry .. => 2
        | .settings .. => 3
        | .flush => 4),
      s.engine.queue.length, s.outage.fresh.toNat, s.outage.chainOpen.toNat, s.storeFault.toNat, s.engine.torn,
      (!s.panelPort.synced).toNat, (!s.drivePort.synced).toNat, s.lpr.stale.toNat, s.handover.overLimit.toNat, s.hpm.toNat,
      s.built.toNat, (s.settingsPending .panel).toNat, (s.settingsPending .drive).toNat, s.mains.lastGasp.code,
      s.mains.qualPending.toNat] : Vector Nat 21)[i]) := by
  fin_cases i
  iterate 4 · simp [readStatus, readNat, wordOf]
  · have hne : (s.engine.work != .idle) = decide (s.engine.work ≠ .idle) := by
      cases hw : s.engine.work <;> rfl
    exact (readBool_eq _).trans (congrArg (fun b : Bool => (Result.ok, BitVec.ofNat 16 b.toNat)) hne)
  · simp only [readStatus]
    cases s.engine.work <;> rfl
  iterate 15 · simp [readStatus, readBool_eq, readNat, wordOf]

theorem readStatus_badIndex {i : Nat} (hi : 21 ≤ i) : readStatus s i = (.badIndex, 0) := by
  unfold readStatus
  split
  case h_22 => rfl
  all_goals omega

theorem readSensors_row (i : Fin 11) : readSensors s i.val =
    (#v[readOpt .busy (s.sensing.door.map fun d => BitVec.ofNat 16 d.code),
      readOpt .busy (s.sensing.quad.map fun q => BitVec.ofNat 16 (quadCode q)), (.ok, BitVec.ofInt 16 s.sensing.acc),
      (.ok, match s.sensing.prevDir with
        | some .cw => 0
        | some .ccw => 1
        | none => 2),
      (.ok, BitVec.ofNat 16 s.sensing.quadFaults), (.ok, BitVec.ofNat 16 s.sensing.htsLatest.toNat),
      (.ok, BitVec.ofNat 16 s.sensing.episode.code),
      readOpt .busy (s.sensing.convCode.map fun c => BitVec.ofNat 16 c.toNat),
      readOpt .busy (s.sensing.convCode.map fun _ => BitVec.ofNat 16 s.sensing.fault.toNat),
      readOpt .busy (s.sensing.lastTemp.map fun t => BitVec.ofInt 16 t),
      readOpt .busy (s.sensing.backupMv.map fun v => BitVec.ofNat 16 v)] : Vector (Result × Word) 11)[i] := by
  fin_cases i
  · exact readOr_eq_readOpt _ _ _
  · exact readOr_eq_readOpt _ _ _
  · rfl
  · simp only [readSensors]
    rcases s.sensing.prevDir with _ | _ | _ <;> rfl
  · rfl
  · exact readBool_eq _
  · rfl
  · exact readOr_eq_readOpt _ _ _
  · simp only [readSensors, readBool_eq]
    cases s.sensing.convCode <;> rfl
  · exact readOr_eq_readOpt _ _ _
  · exact readOr_eq_readOpt _ _ _

theorem readSensors_badIndex {i : Nat} (hi : 11 ≤ i) : readSensors s i = (.badIndex, 0) := by
  unfold readSensors
  split
  case h_12 => rfl
  all_goals omega

theorem levelSource_level {p : Port} {i : Fin 13} (hi : 1 ≤ i.val) (hp : ¬(p = .panel ∧ i = 7)) :
    levelSource p i.val = some i := by
  have h7 : ¬(i.val = 0 ∨ (i.val = 7 ∧ p = .panel)) := by
    rintro (h | ⟨h, hpanel⟩)
    · omega
    · exact hp ⟨hpanel, Fin.ext h⟩
  rw [levelSource, dif_pos i.isLt, if_neg h7]

theorem levelSource_none {p : Port} {i : Nat} (h : i = 0 ∨ 13 ≤ i ∨ (p = .panel ∧ i = 7)) : levelSource p i = none := by
  unfold levelSource
  split
  · rw [if_pos]
    rcases h with h | h | ⟨hp, h⟩
    · exact .inl h
    · omega
    · exact .inr ⟨h, hp⟩
  · rfl

/-- An index of ALERT_CTL outside 16 to 20 names a level or nothing. -/
theorem readAlertCtl_level {p : Port} {i : Nat} (h : i < 16 ∨ 20 < i) :
    readAlertCtl s p i = readOr .badIndex (fun x : Fin 13 => readNat (s.alerts p).levels[x]) (levelSource p i) := by
  unfold readAlertCtl
  split
  case h_6 => rfl
  all_goals omega

theorem readAlertCtl_row (p : Port) (i : Fin 5) : readAlertCtl s p (16 + i.val) = (.ok, BitVec.ofNat 16
    (#v[(s.alerts p).mask, ((List.finRange 13).map fun k => if (s.alerts p).has k then 2 ^ k.val else 0).sum,
      ((List.finRange 13).map fun k => if (s.alerts p).presentable k then 2 ^ k.val else 0).sum, (s.alerts p).line.toNat,
      (s.alerts p).taken.toNat] : Vector Nat 5)[i]) := by
  fin_cases i
  · rfl
  · change readNat (sourceSum (s.alerts p).has) = _
    simp [sourceSum_eq, readNat, wordOf]
  · change readNat (sourceSum (s.alerts p).presentable) = _
    simp [sourceSum_eq, readNat, wordOf]
  · exact readBool_eq _
  · exact readBool_eq _

theorem ctlField_row (t f : Fin 6) : ctlField (t.val * 8 + f.val) = some (t, f) := by
  have hq : (t.val * 8 + f.val) / 8 = t.val := by omega
  have hr : (t.val * 8 + f.val) % 8 = f.val := by omega
  simp only [ctlField, hq, hr, t.isLt, f.isLt, and_self, dif_pos]

theorem ctlField_none {i : Nat} (h : 48 ≤ i ∨ 6 ≤ i % 8) : ctlField i = none := dif_neg (by omega)

theorem tallyPart_flagIndex (t : Fin 6) : tallyPart (t.val * 4 + 2) = .flag t := by decide +revert

theorem tallyPart_none {i : Nat} (h : 25 ≤ i ∨ (i < 24 ∧ i % 4 = 3)) : tallyPart i = .none := by
  unfold tallyPart
  split
  · have h3 : i % 4 = 3 := by omega
    rw [h3] <;> rfl
  · rw [if_neg (by omega)]

end

/-- Settles O21: each object's rows, and the refusals of an index that names nothing. -/
theorem readsOfWhatStands : Obligations.ReadsOfWhatStands := by
  refine ⟨fun p idx data s ht => ⟨?_, ?_, ?_, ?_, ?_, ?_, ?_, ?_, ?_, ?_, ?_, ?_, ?_, ?_, ?_, ?_, ?_, ?_, ?_, ?_, ?_, ?_, ?_, ?_, ?_⟩,
    rfl, rfl, rfl, Options.code_eq, rfl, rfl, rfl, rfl, rfl, rfl⟩
  · intro i hi hb
    exact readGives_of_object (by decide) ht ((congrArg (readLive s) hi).trans (readLive_row s hb i)) nofun
  · rintro x rfl rfl hb
    exact readGives_of_object (by decide) ht (readLive_door s hb) (by simp)
  · exact fun hi hb => readGives_of_object (by decide) ht (readLive_unbuilt s hi hb) nofun
  · exact fun hi => readGives_of_object (by decide) ht (readLive_badIndex s hi) nofun
  · intro i hi
    exact readGives_of_object (by decide) ht ((congrArg (readStatus s) hi).trans (readStatus_row s i)) nofun
  · exact fun hi => readGives_of_object (by decide) ht (readStatus_badIndex s hi) nofun
  · rintro i x hi rfl
    refine readGives_of_object (by decide) ht ((congrArg (readSensors s) hi).trans (readSensors_row s i)) ?_
    fin_cases i <;> simp
  · exact fun hi => readGives_of_object (by decide) ht (readSensors_badIndex s hi) nofun
  · intro i hi h1 hp
    refine readGives_of_object (by decide) ht ?_ nofun
    change readAlertCtl s p idx.toNat = _
    rw [hi, readAlertCtl_level s (by omega), levelSource_level h1 hp]
    rfl
  · intro i hi
    exact readGives_of_object (by decide) ht ((congrArg (readAlertCtl s p) hi).trans (readAlertCtl_row s p i)) nofun
  · intro h
    have hn : (idx.toNat < 16 ∨ 20 < idx.toNat) ∧ (idx.toNat = 0 ∨ 13 ≤ idx.toNat ∨ (p = .panel ∧ idx.toNat = 7)) := by
      rcases h with rfl | h | h | ⟨hp, rfl⟩
      · exact ⟨.inl (by decide), .inl rfl⟩
      · exact ⟨.inl (by omega), .inr (.inl h.1)⟩
      · exact ⟨.inr (by omega), .inr (.inl (by omega))⟩
      · exact ⟨.inl (by decide), .inr (.inr ⟨hp, rfl⟩)⟩
    refine readGives_of_object (by decide) ht ?_ nofun
    change readAlertCtl s p idx.toNat = _
    rw [readAlertCtl_level s hn.1, levelSource_none hn.2]
    rfl
  · intro f g hf hg
    refine readGives_of_object (by decide) ht ?_ nofun
    change readProfile s idx.toNat data = _
    have hd : data.toNat < 16 := hg ▸ g.isLt
    have hgd : (⟨data.toNat, hd⟩ : Fin 16) = g := Fin.ext hg
    rw [readProfile, hf, if_pos f.isLt, dif_pos hd, hgd]
    simp [settingsItem, readOr, Settings.get]
  · intro hi hd
    refine readGives_of_object (by decide) ht ?_ nofun
    change readProfile s idx.toNat data = _
    rw [readProfile, if_pos hi, dif_neg (by omega)]
    rfl
  · intro hi
    refine ⟨readGives_of_object (by decide) ht ?_ nofun, readGives_of_object (by decide) ht ?_ nofun⟩
    · exact if_neg (by omega)
    · change readStored s 10 idx.toNat = _
      simp [readStored, settingsItem, show ¬ idx.toNat < 18 by omega, readOr, readNone]
  · intro f hf
    refine readGives_of_object (by decide) ht ?_ nofun
    change readStored s 10 idx.toNat = _
    simp [hf, readStored, settingsItem, readOr, Settings.get]
  · intro f hf
    refine readGives_of_object (by decide) ht ?_ nofun
    change readStored s 11 idx.toNat = _
    simp [hf, readStored, settingsItem, readOr, Settings.get]
  · intro hi
    refine readGives_of_object (by decide) ht ?_ nofun
    change readStored s 11 idx.toNat = _
    simp [readStored, settingsItem, show ¬ idx.toNat < 8 by omega, readOr, readNone]
  · intro t f hi
    refine readGives_of_object (by decide) ht ?_ nofun
    change readTallyCtl s idx.toNat = _
    rw [readTallyCtl, hi, ctlField_row]
    rfl
  · intro h
    refine readGives_of_object (by decide) ht ?_ nofun
    change readTallyCtl s idx.toNat = _
    rw [readTallyCtl, ctlField_none h]
    rfl
  · intro t hi hb
    refine readGives_of_latch ht ?_ nofun fun _ => ?_
    · change readTally s p (tallyPart idx.toNat) = _
      rw [hi, tallyPart_flagIndex, readTally, if_pos hb, readBool_eq]
    · rw [hi, tallyPart_flagIndex]
      exact ite_self _
  · intro t hi hb
    refine readGives_of_latch ht ?_ nofun fun _ => ?_
    · change readTally s p (tallyPart idx.toNat) = _
      rw [hi, tallyPart_flagIndex, readTally, hb]
      rfl
    · rw [hi, tallyPart_flagIndex]
      exact ite_self _
  · rintro rfl
    refine readGives_of_latch ht rfl nofun fun _ => ?_
    exact ite_self _
  · intro h
    refine readGives_of_latch ht ?_ nofun fun _ => ?_
    · change readTally s p (tallyPart idx.toNat) = _
      rw [tallyPart_none h]
      rfl
    · rw [tallyPart_none h]
      exact ite_self _
  · exact readGives_of_object (by decide) ht rfl nofun
  · exact readGives_of_object (by decide) ht rfl nofun

end Sys2Proof.Machine
end

section
/-! PROOFS. READs of the journal, the outage log and summary, the plan, the scheduler (O22) and of a tally's parts (O29). -/

set_option Elab.async false

namespace Sys2Proof.Machine

/-! ### The journal (Table 3-4) -/

section

variable {s : State} {idx : Index} {data : Word} {pos k : Fin 16}

theorem readJournal_busy (h : s.engine.writePos = none ∨ s.engine.work ≠ .idle) : readJournal s idx data = (.busy, 0) := by
  unfold readJournal
  dsimp only
  split
  · rfl
  · rename_i pos hp
    rcases h with h | h
    · exact nomatch h.symm.trans hp
    · exact if_pos h

theorem readJournal_badValue (hp : s.engine.writePos = some pos) (hw : s.engine.work = .idle)
    (hf : idx.toNat % 16 = 10 ∨ idx.toNat % 16 = 11) (hd : 5 < data.toNat) : readJournal s idx data = (.badValue, 0) := by
  simp only [readJournal, hp, hw, ne_eq, not_true_eq_false, if_false]
  exact if_pos ⟨hf, hd⟩

/-- The slot of an age, counted back from the write position. -/
theorem slotAtAge_eq (hk : k.val = (pos.val + 31 - idx.toNat / 16) % 16) :
    slotAtAge pos (Fin.ofNat 16 (idx.toNat / 16)) = k := by
  have hidx := idx.isLt
  apply Fin.ext
  rw [hk, slotAtAge, Fin.sub_def, Fin.sub_def]
  simp only [Fin.ofNat, Fin.val_one]
  omega

/-- A slot's state and number are read whatever its header; its other fields where the header is valid. -/
theorem readJournal_slot (hp : s.engine.writePos = some pos) (hw : s.engine.work = .idle)
    (hk : k.val = (pos.val + 31 - idx.toNat / 16) % 16) (hd : ¬((idx.toNat % 16 = 10 ∨ idx.toNat % 16 = 11) ∧ 5 < data.toNat)) :
    (idx.toNat % 16 = 0 → readJournal s idx data = (.ok, BitVec.ofNat 16 s.journal[k].state.code))
    ∧ (idx.toNat % 16 = 15 → readJournal s idx data = (.ok, BitVec.ofNat 16 k.val))
    ∧ (1 ≤ idx.toNat % 16 → idx.toNat % 16 ≤ 14 → readJournal s idx data =
        if s.journal[k].validHeader then readSlotField s.journal[k] (idx.toNat % 16) data else (.wrongState, 0)) := by
  have h : readJournal s idx data =
      match idx.toNat % 16 with
      | 0 => readNat s.journal[k].state.code
      | 15 => readNat k.val
      | _ => if s.journal[k].validHeader then readSlotField s.journal[k] (idx.toNat % 16) data else readNone .wrongState := by
    simp only [readJournal, hp, hw, ne_eq, not_true_eq_false, if_false, hd, slotAtAge_eq hk] <;> rfl
  rw [h]
  refine ⟨fun h0 => by rw [h0] <;> rfl, fun h15 => by rw [h15] <;> rfl, fun h1 h14 => ?_⟩
  split
  · omega
  · omega
  · rfl

theorem Slot.headed_iff (sl : Slot) : sl.validHeader = true ↔ sl.headed := by
  simp only [Slot.validHeader, Slot.headed, Bool.or_eq_true, beq_iff_eq]

/-- The fields of a slot but the two that carry a tally. -/
theorem readSlotField_row (sl : Slot) (d : Word) (f : Fin 14) (h9 : f ≠ 9) (h10 : f ≠ 10) :
    readSlotField sl (f.val + 1) d = (.ok,
      (#v[sl.seqNo, BitVec.ofNat 16 sl.origin.code, BitVec.ofNat 16 sl.body.programme.val,
        BitVec.ofNat 16 sl.body.options.code, BitVec.ofNat 16 sl.body.runReq.code, BitVec.ofNat 16 sl.body.phase.code,
        BitVec.ofNat 16 sl.body.deficit, BitVec.ofNat 16 sl.body.phaseClock, BitVec.ofInt 16 sl.body.temp, 0, 0,
        BitVec.ofNat 16 sl.body.nextDir.code, BitVec.ofNat 16 sl.body.pulsesDone, BitVec.ofNat 16 sl.body.missed]
        : Vector Word 14)[f]) := by
  fin_cases f
  iterate 9 · rfl
  · exact absurd rfl h9
  · exact absurd rfl h10
  iterate 3 · rfl

theorem readBodyTally_eq (b : Snapshot) {n : Nat} {t : Fin 6} (h : n = t.val) (g : Nat → Nat) :
    readBodyTally b n g = (.ok, BitVec.ofNat 16 (g b.tallies[t])) := by
  subst h
  exact dif_pos t.isLt

end

/-- A value that is read while `b` holds. -/
theorem readOpt_ite (r : Result) (b : Bool) (w : Word) :
    (if b then (.ok, w) else readNone r) = readOpt r (if b then some w else none) := by cases b <;> rfl

/-! ### The outage log and summaries (Table 6-7) -/

section

variable (s : State)

/-- An index that names a log item's field. -/
theorem readOutlog_item {i : Nat} {it : LogItem} (hi : i < 96) (hl : s.outage.log[i / 4]? = some it) (h3 : i % 4 ≠ 3) :
    readOutlog s i =
      match i % 4 with
      | 0 => readNat it.kind.code
      | 1 => readNat it.time
      | _ => readOr .wrongState readNat it.amount := by
  unfold readOutlog
  rw [if_neg (by omega), if_neg (by omega), hl] <;> rfl

theorem readOutlog_empty {i : Nat} (hi : i < 96) (h3 : i % 4 ≠ 3) (hl : s.outage.log[i / 4]? = none) :
    readOutlog s i = (.wrongState, 0) := by
  unfold readOutlog
  rw [if_neg (by omega), if_neg (by omega), hl] <;> rfl

theorem readOutlog_badIndex {i : Nat} (h : i < 96 ∧ i % 4 = 3 ∨ 96 < i) : readOutlog s i = (.badIndex, 0) := by
  unfold readOutlog
  rw [if_neg (by omega), if_pos (by omega)]
  rfl

theorem readSummary_row (m : Summary) (i : Fin 12) : readSummary m i.val =
    (#v[(.ok, BitVec.ofNat 16 m.duration), (.ok, BitVec.ofNat 16 m.quality.code), (.ok, BitVec.ofNat 16 m.doorOpened.toNat),
      (.ok, BitVec.ofNat 16 m.doorOpenSec), (.ok, BitVec.ofNat 16 m.quarters), (.ok, BitVec.ofInt 16 m.net),
      (.ok, BitVec.ofNat 16 m.uncertain.toNat), readOpt .wrongState (m.lastTemp.map fun t => BitVec.ofInt 16 t),
      (.ok, BitVec.ofNat 16 m.backupLow.toNat), (.ok, BitVec.ofNat 16 m.itemsLost), readOpt .wrongState m.matchKey,
      (.ok, BitVec.ofNat 16 m.flushed.toNat)] : Vector (Result × Word) 12)[i] := by
  fin_cases i
  iterate 2 · rfl
  · exact readBool_eq _
  iterate 3 · rfl
  · exact readBool_eq _
  · exact readOr_eq_readOpt _ _ _
  · exact readBool_eq _
  · rfl
  · simp only [readSummary]
    cases m.matchKey <;> rfl
  · exact readBool_eq _

theorem readOutsum_row (i : Fin 7) : readOutsum s (i.val + 12) =
    (#v[(.ok, BitVec.ofNat 16 s.outage.chainOpen.toNat),
      readOpt .wrongState (if s.outage.chainOpen then some (BitVec.ofNat 16 s.outage.openedBy.code) else none),
      readOpt .wrongState (if s.outage.chainOpen then some (BitVec.ofNat 16 s.outage.resetSeen.toNat) else none),
      (.ok, BitVec.ofNat 16 s.seq.state.code), (.ok, BitVec.ofNat 16 s.seq.pace),
      readOpt .wrongState (s.seq.lastVbk.map fun v => BitVec.ofNat 16 v), (.ok, BitVec.ofNat 16 s.outage.fresh.toNat)]
      : Vector (Result × Word) 7)[i] := by
  fin_cases i
  · exact readBool_eq _
  · exact readOpt_ite _ _ _
  · refine Eq.trans ?_ (readOpt_ite _ _ _)
    exact congrArg (fun x => if s.outage.chainOpen = true then x else readNone .wrongState) (readBool_eq s.outage.resetSeen)
  iterate 2 · rfl
  · exact readOr_eq_readOpt _ _ _
  · exact readBool_eq _

theorem readOutsum_summary {i : Nat} (h : i ≤ 11) : readOutsum s i = readSummary s.outage.summary i := if_pos h

theorem readOutsum_flushed {i : Nat} (h : i ≤ 11) : readOutsum s (i + 32) = readSummary s.flushedCopy i := by
  unfold readOutsum
  rw [if_neg (by omega), if_pos (by omega), Nat.add_sub_cancel]

theorem readOutsum_badIndex {i : Nat} (h : (19 ≤ i ∧ i ≤ 31) ∨ 44 ≤ i) : readOutsum s i = (.badIndex, 0) := by
  unfold readOutsum
  rw [if_neg (by omega), if_neg (by omega)]
  split
  case h_8 => rfl
  all_goals omega

/-! ### The plan (Table 7-7) and the scheduler (Table 9-2) -/

theorem readPlanField_row (pl : Plan) (i : Fin 20) : readPlanField pl i.val =
    (#v[(.ok, BitVec.ofNat 16 pl.verdict.code), (.ok, BitVec.ofNat 16 pl.reasons.toNat),
      (.ok, BitVec.ofNat 16 pl.target.code), (.ok, BitVec.ofNat 16 pl.cls.code), (.ok, BitVec.ofNat 16 pl.tOut),
      (.ok, BitVec.ofNat 16 pl.dPrime), (.ok, BitVec.ofNat 16 pl.rawHeat), (.ok, BitVec.ofNat 16 pl.credit),
      (.ok, BitVec.ofNat 16 pl.heatSec), (.ok, BitVec.ofNat 16 pl.coolSec), (.ok, BitVec.ofNat 16 pl.elapsed),
      (.ok, BitVec.ofNat 16 pl.windowRem), (.ok, BitVec.ofNat 16 pl.offset), (.ok, BitVec.ofNat 16 pl.recovery),
      (.ok, BitVec.ofNat 16 pl.nextDir.code), (.ok, BitVec.ofNat 16 pl.programme.val),
      (.ok, BitVec.ofNat 16 pl.options.code), readOpt .wrongState pl.sourceSeq, (.ok, BitVec.ofNat 16 pl.evalCount),
      readOpt .wrongState (pl.tRet.map fun t => BitVec.ofInt 16 t)] : Vector (Result × Word) 20)[i] := by
  fin_cases i
  iterate 17 · rfl
  · simp only [readPlanField]
    cases pl.sourceSeq <;> rfl
  · rfl
  · exact readOr_eq_readOpt _ _ _

theorem readAcrease_row (hrun : s.mainRunning = true) (i : Fin 12) : readAcrease s i.val =
    (#v[(.ok, BitVec.ofNat 16 s.sched.state.code), (.ok, BitVec.ofNat 16 s.sched.endReason.code),
      (.ok, BitVec.ofNat 16 (if s.sched.state.timed then (s.sched.remaining + 999) / 1000 else 0)),
      (.ok, BitVec.ofNat 16 s.suspended.toNat), (.ok, BitVec.ofNat 16 s.sched.nextDir.code),
      readOpt .wrongState (if s.sched.state.tmb then some (BitVec.ofNat 16 s.sched.pulseDir.code) else none),
      (.ok, BitVec.ofNat 16 s.sched.pulsesDone), (.ok, BitVec.ofNat 16 s.sched.missed),
      (.ok, BitVec.ofNat 16 s.sched.windowEnd), (.ok, BitVec.ofNat 16 s.sched.period),
      (.ok, BitVec.ofNat 16 s.sched.tumbleLen), (.ok, BitVec.ofNat 16 s.sched.state.tmb.toNat)]
      : Vector (Result × Word) 12)[i] := by
  have htmb : s.tmb = s.sched.state.tmb := by rw [State.tmb, hrun, Bool.true_and]
  fin_cases i
  iterate 3 · rfl
  · exact readBool_eq _
  · rfl
  · exact readOpt_ite _ _ _
  iterate 5 · rfl
  · exact (readBool_eq _).trans (congrArg (fun b : Bool => (Result.ok, BitVec.ofNat 16 b.toNat)) htmb)

theorem readAcrease_badIndex {i : Nat} (h : 12 ≤ i) : readAcrease s i = (.badIndex, 0) := by
  unfold readAcrease
  split
  case h_13 => rfl
  all_goals omega

theorem readPlan_badIndex {i : Nat} (h : 19 < i) : readPlan s i = (.badIndex, 0) := if_pos h

theorem readPlan_busy {i : Nat} (h : i ≤ 19) (hs : s.handover.state = .evaluating) : readPlan s i = (.busy, 0) := by
  rw [readPlan, if_neg (by omega), if_pos hs]
  rfl

theorem readPlan_open {i : Nat} (h : i ≤ 19) (hs : s.handover.state ≠ .evaluating) :
    readPlan s i = readOr .wrongState (fun p : Plan => readPlanField p i) s.plan := by
  rw [readPlan, if_neg (by omega), if_neg hs]

end

/-- Settles O22: each object's rows, and the refusals. -/
theorem readsOfWhatWasRecorded : Obligations.ReadsOfWhatWasRecorded := by
  refine ⟨fun p idx data s ht => ⟨?_, ?_, ?_, ?_, ?_, ?_, ?_, ?_, ?_, ?_, ?_, ?_, ?_, ?_, ?_, ?_⟩,
    rfl, rfl, rfl, rfl, rfl, rfl, rfl, rfl, rfl, rfl⟩
  · exact fun h => readGives_of_object (by decide) ht (readJournal_busy h) nofun
  · exact fun pos hp hw hf hd => readGives_of_object (by decide) ht (readJournal_badValue hp hw hf hd) nofun
  · rintro pos k _ _ hp hw rfl hk rfl
    refine ⟨fun h0 => ?_, fun h15 => ?_, ?_, fun t hd hsl => ⟨fun h10 => ?_, fun h11 => ?_⟩, fun h1 h14 hsl hd => ?_⟩
    · exact readGives_of_object (by decide) ht ((readJournal_slot hp hw hk (by omega)).1 h0) nofun
    · exact readGives_of_object (by decide) ht ((readJournal_slot hp hw hk (by omega)).2.1 h15) nofun
    · rintro x rfl hsl f hf h9 h10
      have h9' : f.val ≠ 9 := fun h => h9 (Fin.ext h)
      have h10' : f.val ≠ 10 := fun h => h10 (Fin.ext h)
      have hslot := (readJournal_slot (data := data) hp hw hk (by omega)).2.2 (by omega) (by omega)
      rw [if_pos ((Slot.headed_iff _).mpr hsl), hf] at hslot
      exact readGives_of_object (by decide) ht (hslot.trans (readSlotField_row _ _ f h9 h10)) nofun
    · have hslot := (readJournal_slot (data := data) hp hw hk (by omega)).2.2 (by omega) (by omega)
      rw [if_pos ((Slot.headed_iff _).mpr hsl), h10] at hslot
      exact readGives_of_object (by decide) ht
        (hslot.trans (readBodyTally_eq s.journal[k].body hd (· % 65536))) nofun
    · have hslot := (readJournal_slot (data := data) hp hw hk (by omega)).2.2 (by omega) (by omega)
      rw [if_pos ((Slot.headed_iff _).mpr hsl), h11] at hslot
      exact readGives_of_object (by decide) ht
        (hslot.trans (readBodyTally_eq s.journal[k].body hd (· / 65536))) nofun
    · have hslot := (readJournal_slot hp hw hk hd).2.2 h1 h14
      rw [if_neg fun h => hsl ((Slot.headed_iff _).mp h)] at hslot
      exact readGives_of_object (by decide) ht hslot nofun
  · intro it hi hl
    refine ⟨fun h => ?_, fun h => ?_, fun a h ha => ?_, fun h ha => ?_⟩
    all_goals
      have hitem := readOutlog_item s hi hl (by omega)
      rw [h] at hitem
    · exact readGives_of_object (by decide) ht hitem nofun
    · exact readGives_of_object (by decide) ht hitem nofun
    · rw [ha] at hitem
      exact readGives_of_object (by decide) ht hitem nofun
    · rw [ha] at hitem
      exact readGives_of_object (by decide) ht hitem nofun
  · exact fun hi h3 hl => readGives_of_object (by decide) ht (readOutlog_empty s hi h3 hl) nofun
  · exact fun h => readGives_of_object (by decide) ht (readOutlog_badIndex s h) nofun
  · rintro rfl
    exact readGives_of_object (by decide) ht rfl nofun
  · rintro m i x hm rfl
    have hrow : readOutsum s idx.toNat = readSummary m i.val := by
      rcases hm with ⟨hi, rfl⟩ | ⟨hi, rfl⟩
      · rw [hi, readOutsum_summary s (by omega)]
      · rw [hi, readOutsum_flushed s (by omega)]
    refine readGives_of_object (by decide) ht (hrow.trans (readSummary_row m i)) ?_
    fin_cases i <;> simp
  · rintro i x hi rfl
    refine readGives_of_object (by decide) ht ((congrArg (readOutsum s) hi).trans (readOutsum_row s i)) ?_
    fin_cases i <;> simp
  · exact fun h => readGives_of_object (by decide) ht (readOutsum_badIndex s h) nofun
  · exact fun h => readGives_of_object (by decide) ht (readPlan_badIndex s h) nofun
  · exact fun h hs => readGives_of_object (by decide) ht (readPlan_busy s h hs) nofun
  · intro h hs hp
    refine readGives_of_object (by decide) ht ((readPlan_open s h hs).trans ?_) nofun
    rw [hp]
    rfl
  · rintro pl i x hi hs hp rfl
    refine readGives_of_object (by decide) ht ((readPlan_open s (by omega) hs).trans ?_) ?_
    · rw [hp, hi]
      exact readPlanField_row pl i
    · fin_cases i <;> simp
  · rintro i x hi rfl
    refine readGives_of_object (by decide) ht ((congrArg (readAcrease s) hi).trans (readAcrease_row s ht.1 i)) ?_
    fin_cases i <;> simp
  · exact fun h => readGives_of_object (by decide) ht (readAcrease_badIndex s h) nofun

/-! ### A tally's parts (O29) -/

/-- A READ of a tally's part answers it and moves the port's latch. -/
theorem receiveFrame_readTally {p : Port} {idx : Index} {data : Word} {s : State} {r : Result} {d : Word}
    {l : Option (Fin 6 × Nat)} (ht : takesFrames p s) (hx : readTally s p (tallyPart idx.toNat) = (r, d))
    (hl : latchAfterRead s p (tallyPart idx.toNat) = l) :
    receiveFrame p (frameOf 1 2 idx data) s = s.setPort p { s.port p with
      allOnes := false, latch := l, resp := some (answerOf 1 r idx d (ackOf 1 2 r)) } := by
  have hread : readObject (s.unmarked p) p 2 idx data = (r, d) := readObject_unmarked.trans hx
  have hafter : afterRead (s.unmarked p) p 2 idx = (s.unmarked p).setPort p { (s.unmarked p).port p with latch := l } := by
    rw [afterRead, if_pos rfl, latchAfterRead_unmarked, hl]
  rw [receiveFrame_taken ht (frameOf_ne_allOnes 1 2 idx data (by decide)), dealFrame_read, dealRead, hread, hafter,
    loadAnswer_latch, answerFor, frameCmd_frameOf, frameClass_frameOf, frameIndex_frameOf]
  rfl

/-- A port whose latch stands. -/
theorem State.setPort_sameLatch (s : State) (p : Port) (a : Answer) :
    s.setPort p { s.port p with allOnes := false, latch := (s.port p).latch, resp := some a } = s.withAnswer p a := rfl

/-- Without a latched byte of the tally the live one is read, and the latch stands. -/
theorem latch_of_other {q : PortState} {t : Fin 6} (h : ∀ b, q.latch ≠ some (t, b)) (live : Nat) :
    highByte q t live = live ∧ latchAfterHigh q t = q.latch := by
  unfold highByte latchAfterHigh
  rcases hl : q.latch with _ | ⟨u, b⟩
  · exact ⟨rfl, rfl⟩
  · have hu : u ≠ t := fun hu => h b (hu ▸ hl)
    exact ⟨if_neg hu, if_neg hu⟩

/-- Settles O29: the low part loads the latch, the high part uses it. -/
theorem tallyReads : Obligations.TallyReads := by
  intro p t data s ht
  have hlow : exec (.readTallyLow p t data) s = .next (receiveFrame p (frameOf 1 2 (tallyIndex t 0) data) s) :=
    exec_of_frame s rfl
  have hhigh : exec (.readTallyHigh p t data) s = .next (receiveFrame p (frameOf 1 2 (tallyIndex t 1) data) s) :=
    exec_of_frame s rfl
  rw [hlow, hhigh]
  refine ⟨fun hb => congrArg _ ?_, fun b hb hl => congrArg _ ?_, fun hb hl => congrArg _ ?_,
    fun hb => ⟨congrArg _ ?_, congrArg _ ?_⟩⟩
  · refine receiveFrame_readTally ht ?_ ?_ <;> rw [tallyPart_low]
    · exact if_pos hb
    · exact if_pos hb
  · refine receiveFrame_readTally ht ?_ ?_ <;> rw [tallyPart_high]
    · have hbyte : highByte (s.port p) t (s.tallies[t].value / 65536) = b := by rw [highByte, hl]; exact if_pos rfl
      rw [readTally, if_pos hb, hbyte]
      rfl
    · have hafter : latchAfterHigh (s.port p) t = none := by rw [latchAfterHigh, hl]; exact if_pos rfl
      exact (if_pos hb).trans hafter
  · obtain ⟨hbyte, hafter⟩ := latch_of_other hl (s.tallies[t].value / 65536)
    refine (receiveFrame_readTally ht ?_ ?_).trans (State.setPort_sameLatch _ _ _) <;> rw [tallyPart_high]
    · rw [readTally, if_pos hb, hbyte]
      rfl
    · exact (if_pos hb).trans hafter
  · refine (receiveFrame_readTally ht ?_ ?_).trans (State.setPort_sameLatch _ _ _)
    · rw [tallyPart_low, readTally, hb]
      rfl
    · exact if_neg (Bool.eq_false_iff.mp hb)
  · refine (receiveFrame_readTally ht ?_ ?_).trans (State.setPort_sameLatch _ _ _)
    · rw [tallyPart_high, readTally, hb]
      rfl
    · exact if_neg (Bool.eq_false_iff.mp hb)

end Sys2Proof.Machine
end

section
/-! PROOFS. The acts that frames call forth do not look at a port's own state and do not touch it, so that what they do after the
all-ones mark was cleared is what they do before, with the mark cleared. -/

set_option Elab.async false

namespace Sys2Proof.Machine

/-- `f` neither reads nor writes a port's own state. -/
def PortBlind (f : State → State) : Prop := ∀ (s : State) (p : Port) (q : PortState), f (s.setPort p q) = (f s).setPort p q

/-- `v` does not depend on a port's own state. -/
def PortFree {α : Type} (v : State → α) : Prop := ∀ (s : State) (p : Port) (q : PortState), v (s.setPort p q) = v s

namespace PortBlind

theorem id : PortBlind fun s => s := fun _ _ _ => rfl

theorem comp {f g : State → State} (hf : PortBlind f) (hg : PortBlind g) : PortBlind fun s => f (g s) :=
  fun s p q => (congrArg f (hg s p q)).trans (hf _ p q)

theorem ite {c : State → Prop} {f g : State → State} [∀ s, Decidable (c s)] (hc : PortFree c) (hf : PortBlind f)
    (hg : PortBlind g) : PortBlind fun s => if c s then f s else g s := by
  intro s p q
  dsimp only
  by_cases h : c s
  · rw [if_pos h, if_pos (hc s p q ▸ h), hf]
  · rw [if_neg h, if_neg (hc s p q ▸ h), hg]

/-- An act with a parameter read from the state. -/
theorem param {α : Type} {f : α → State → State} {v : State → α} (hf : ∀ a, PortBlind (f a)) (hv : PortFree v) :
    PortBlind fun s => f (v s) s := fun s p q => (congrArg (f · _) (hv s p q)).trans (hf _ s p q)

/-- An act on the state before, with a further part of it. -/
theorem unmarked {f : State → State} (hf : PortBlind f) (s : State) (p : Port) : f (s.unmarked p) = (f s).unmarked p := by
  have hport : ((f s).port p) = s.port p := by
    have h := congrArg (State.port · p) (hf s p (s.port p))
    rwa [State.setPort_port, State.port_setPort] at h
  rw [State.unmarked, hf, State.unmarked, hport]

end PortBlind

/-! ### Requests and the engine -/

theorem raiseBoth_blind (x : Alert) : PortBlind (raiseBoth x) := by intro s p q; cases p <;> rfl

theorem raiseOn_blind (x : Alert) (r : Port) : PortBlind (raiseOn x r) := by intro s p q; cases p <;> cases r <;> rfl

theorem request_blind (o : Origin) : PortBlind (request o) :=
  PortBlind.ite (by intro s p q; cases p <;> rfl) (by intro s p q; cases p <;> rfl) (by intro s p q; cases p <;> rfl)

theorem requestLastGasp_blind : PortBlind requestLastGasp :=
  PortBlind.ite (by intro s p q; cases p <;> rfl) (by intro s p q; cases p <;> rfl) (by intro s p q; cases p <;> rfl)

theorem requestPhase_blind : PortBlind requestPhase :=
  PortBlind.ite (by intro s p q; cases p <;> rfl) (request_blind _) PortBlind.id

theorem requestSettings_blind (r : Port) (it : Item) (w : Word) : PortBlind (requestSettings r it w) := by
  intro s p q; cases p <;> rfl

theorem startEntry_blind (o : Origin) (snap : Snapshot) (rest : List Request) (pos : Fin 16) :
    PortBlind (startEntry o snap rest pos) := by intro s p q; cases p <;> rfl

theorem startWork_blind : PortBlind startWork := by
  refine PortBlind.ite (by intro s p q; cases p <;> rfl) (by intro s p q; cases p <;> rfl)
    (PortBlind.ite (by intro s p q; cases p <;> rfl) (by intro s p q; cases p <;> rfl) ?_)
  intro s p q
  have hq : (s.setPort p q).engine = s.engine := State.setPort_engine s p q
  dsimp only
  rw [hq]
  split
  · cases p <;> rfl
  · exact startEntry_blind _ _ _ _ s p q
  · rfl

theorem serve_blind : PortBlind serve := PortBlind.ite (by intro s p q; cases p <;> rfl) startWork_blind PortBlind.id

/-! ### Occurrences -/

theorem notifyWrap_blind : PortBlind notifyWrap :=
  PortBlind.ite (f := fun s => request .tally (raiseBoth .tallyTarget { s with freeze.notify := true }))
    (by intro s p q; cases p <;> rfl)
    ((request_blind _).comp (by intro s p q; cases p <;> rfl)) (by intro s p q; cases p <;> rfl)

theorem deliver_blind (src : Source) (inc : Nat) : PortBlind (deliver src inc) :=
  PortBlind.ite (by intro s p q; cases p <;> rfl) PortBlind.id
    (PortBlind.ite (f := fun s => notifyWrap { s with tallies := deliverAll src inc s.tallies })
      (by intro s p q; cases p <;> rfl)
      (notifyWrap_blind.comp (by intro s p q; cases p <;> rfl)) (by intro s p q; cases p <;> rfl))

/-! ### Phase changes and the scheduler -/

theorem restoreTarget_blind : PortBlind restoreTarget := by
  intro s p q
  unfold restoreTarget
  rw [State.setPort_preloaded]
  split
  · rfl
  · cases p <;> rfl

theorem endSched_blind (r : EndReason) : PortBlind (endSched r) := by intro s p q; cases p <;> rfl

theorem timed_free : PortFree fun s => s.sched.state.timed = true := by intro s p q; cases p <;> rfl

theorem phase_free (ph : Phase) : PortFree fun s => s.lpr.phase = ph := by intro s p q; cases p <;> rfl

theorem endByChange_blind (r : EndReason) : PortBlind (endByChange r) :=
  PortBlind.ite timed_free ((raiseBoth_blind _).comp (endSched_blind r)) PortBlind.id

theorem putPhase_blind (ph : Phase) (n : Nat) : PortBlind (putPhase ph n) := by intro s p q; cases p <;> rfl

theorem changeToDone_blind (r : EndReason) : PortBlind (changeToDone r) := by
  have h : PortBlind fun s => restoreTarget { putPhase .done 0 s with lpr.runReq := .stopped } :=
    restoreTarget_blind.comp (by intro s p q; cases p <;> rfl)
  exact requestPhase_blind.comp (PortBlind.ite (phase_free _) ((endByChange_blind r).comp h) h)

theorem writeDone_blind (r : EndReason) : PortBlind (writeDone r) :=
  PortBlind.ite (phase_free _) PortBlind.id (changeToDone_blind r)

theorem endOwn_blind (r : EndReason) : PortBlind (endOwn r) :=
  (raiseBoth_blind _).comp ((writeDone_blind _).comp (endSched_blind r))

theorem windowTest_blind : PortBlind windowTest :=
  PortBlind.ite (by intro s p q; cases p <;> rfl) (endOwn_blind _) PortBlind.id

theorem enterRest_blind (ms : Nat) : PortBlind (enterRest ms) := windowTest_blind.comp (by intro s p q; cases p <;> rfl)

/-- The copies that a fresh start fixes. -/
def freshCopies (s : State) : State :=
  { s with
    sched := { s.sched with
      nextDir := .cw, pulsesDone := 0, missed := 0, endReason := .none,
      windowEnd := (s.settings.prof s.lpr.programme).wSec s.lpr.options
      period := (s.settings.prof s.lpr.programme).period, tumbleLen := (s.settings.prof s.lpr.programme).uEff } }

theorem freshStart_eq (s : State) : freshStart s = if s.lpr.options.noAnticrease then endOwn .phase (freshCopies s)
    else enterRest ((s.settings.prof s.lpr.programme).period * 1000) (freshCopies s) := rfl

theorem freshCopies_blind : PortBlind freshCopies := by intro s p q; cases p <;> rfl

theorem freshStart_blind : PortBlind freshStart :=
  PortBlind.ite (c := fun s => s.lpr.options.noAnticrease = true) (f := fun s => endOwn .phase (freshCopies s))
    (g := fun s => enterRest ((s.settings.prof s.lpr.programme).period * 1000) (freshCopies s))
    (by intro s p q; cases p <;> rfl) ((endOwn_blind _).comp freshCopies_blind)
    (PortBlind.param (f := fun n s => enterRest n (freshCopies s)) (fun n => (enterRest_blind n).comp freshCopies_blind)
      (by intro s p q; cases p <;> rfl))

theorem changePhase_blind (ph : Phase) : PortBlind (changePhase ph) := by
  have h : PortBlind fun s => if s.lpr.phase = .anticrease then endByChange .phase (putPhase ph 0 s) else putPhase ph 0 s :=
    PortBlind.ite (phase_free _) ((endByChange_blind _).comp (putPhase_blind ph 0)) (putPhase_blind ph 0)
  exact PortBlind.ite (fun _ _ _ => rfl) (changeToDone_blind _)
    (requestPhase_blind.comp (PortBlind.ite (fun _ _ _ => rfl) (freshStart_blind.comp h) h))

theorem suspendSched_blind : PortBlind suspendSched :=
  PortBlind.ite (by intro s p q; cases p <;> rfl)
    (PortBlind.param (f := fun n s => serve (enterRest (n * 1000) s)) (v := fun s => s.sched.period)
      (fun n => serve_blind.comp (enterRest_blind _)) (by intro s p q; cases p <;> rfl)) PortBlind.id

theorem enterRecovery_blind (n : Nat) : PortBlind (enterRecovery n) :=
  (raiseOn_blind .tumbleDue .drive).comp (g := fun s => { s with
    sched.state := .recovery, sched.remaining := n * 1000, sched.pulseDir := s.sched.nextDir,
    sched.nextDir := s.sched.nextDir.opposite }) (by intro s p q; cases p <;> rfl)

/-- The copies that a plan start fixes. -/
def planCopies (pl : Plan) (s : State) : State :=
  { s with
    sched := { s.sched with
      nextDir := pl.nextDir, missed := 0, endReason := .none,
      windowEnd := pl.elapsed + pl.windowRem, period := (s.settings.prof s.lpr.programme).period
      tumbleLen := (s.settings.prof s.lpr.programme).uEff } }

theorem planStart_eq (pl : Plan) (s : State) : planStart pl s =
    if pl.recovery > 0 then enterRecovery pl.recovery (planCopies pl s) else enterRest (pl.offset * 1000) (planCopies pl s) := rfl

theorem planStart_blind (pl : Plan) : PortBlind (planStart pl) := by
  have h : PortBlind (planCopies pl) := by intro s p q; cases p <;> rfl
  exact PortBlind.ite (fun _ _ _ => rfl) ((enterRecovery_blind _).comp h) ((enterRest_blind _).comp h)

theorem acknowledge_blind : PortBlind acknowledge :=
  (deliver_blind .tumblePulses 1).comp (g := fun s => { s with
    sched.state := .tumbling, sched.remaining := s.sched.tumbleLen * 1000, sched.missed := 0,
    sched.nextDir := s.sched.pulseDir.opposite }) (by intro s p q; cases p <;> rfl)

theorem storeRunReq_blind (r : RunReq) : PortBlind (storeRunReq r) :=
  PortBlind.ite (by intro s p q; cases p <;> rfl) PortBlind.id
    (PortBlind.ite (f := fun s => { s with lpr.runReq := r }) (g := fun s => suspendSched { s with lpr.runReq := r })
      (fun _ _ _ => rfl) (by intro s p q; cases p <;> rfl) (suspendSched_blind.comp (by intro s p q; cases p <;> rfl)))

theorem cancelProgramme_blind : PortBlind cancelProgramme :=
  PortBlind.ite (phase_free _) (by intro s p q; cases p <;> rfl) (serve_blind.comp (changeToDone_blind _))

theorem makeLastGasp_blind : PortBlind makeLastGasp := requestLastGasp_blind.comp (by intro s p q; cases p <;> rfl)

/-! ### The hand-over -/

theorem closeChain_blind : PortBlind closeChain := by intro s p q; cases p <;> rfl

theorem mainsDips_blind : PortBlind mainsDips :=
  PortBlind.ite (by intro s p q; cases p <;> rfl) (deliver_blind _ _) PortBlind.id

theorem close_blind : PortBlind close := by
  have h : PortBlind fun s => request .resume (mainsDips (closeChain { s with freeze.ret := false })) :=
    (request_blind _).comp (mainsDips_blind.comp (closeChain_blind.comp (by intro s p q; cases p <;> rfl)))
  exact PortBlind.comp (f := fun s => { s with kept := none, handover.state := .closed })
    (by intro s p q; cases p <;> rfl) h

theorem carryEnd_blind : PortBlind carryEnd := close_blind.comp (writeDone_blind _)

theorem publish_blind (pl : Plan) : PortBlind (publish pl) := by intro s p q; cases p <;> rfl

theorem republish_blind (pl : Plan) : PortBlind (republish pl) :=
  PortBlind.ite (by intro s p q; cases p <;> rfl) (publish_blind pl) ((raiseBoth_blind .planChanged).comp (publish_blind pl))

theorem recomputed_setPort (s : State) (k : Kept) (c : Bool) (p : Port) (q : PortState) :
    (s.setPort p q).recomputed k c = s.recomputed k c := by cases p <;> rfl

/-- A recomputation's state does not depend on the port, and its verdict neither. -/
theorem recomputeConfirm_blind (s : State) (p : Port) (q : PortState) :
    recomputeConfirm (s.setPort p q) = ((recomputeConfirm s).1.setPort p q, (recomputeConfirm s).2) := by
  have hc (pl : Plan) : PortBlind fun s => { republish pl s with handover.state := .confirmed } :=
    PortBlind.comp (f := fun s => { s with handover.state := .confirmed }) (by intro s p q; cases p <;> rfl)
      (republish_blind pl)
  have he (pl : Plan) : PortBlind fun s => carryEnd (republish pl s) := carryEnd_blind.comp (republish_blind pl)
  unfold recomputeConfirm
  rw [State.setPort_kept]
  split
  · rfl
  · rename_i k _
    dsimp only
    rw [recomputed_setPort]
    split
    · exact congrArg (·, _) (hc _ s p q)
    · exact congrArg (·, _) (hc _ s p q)
    · exact congrArg (·, _) (he _ s p q)
    · exact congrArg (·, _) (republish_blind _ s p q)

theorem preloadTarget_blind (pl : Plan) : PortBlind (preloadTarget pl) := by
  refine PortBlind.ite (fun _ _ _ => rfl) ?_ PortBlind.id
  intro s p q
  have hset : (s.setPort p q).settings = s.settings := State.setPort_settings s p q
  dsimp only
  rw [hset]
  split
  · cases p <;> rfl
  · rfl

theorem applyPhase_blind (pl : Plan) : PortBlind (applyPhase pl) :=
  PortBlind.ite (phase_free _) (putPhase_blind _ _)
    (PortBlind.ite (fun _ _ _ => rfl) (changeToDone_blind _)
      (PortBlind.ite (phase_free _) ((endByChange_blind _).comp (putPhase_blind _ _)) (putPhase_blind _ _)))

theorem applyRequest_blind (pl : Plan) (old : Phase) : PortBlind (applyRequest pl old) :=
  PortBlind.ite (fun _ _ _ => rfl) PortBlind.id requestPhase_blind

/-- The apply but for its PHASE request and the plan start. -/
def applyRecord (pl : Plan) (s : State) : State :=
  let s2 := applyPhase pl (preloadTarget pl { s with lpr.deficit := pl.dPrime, lpr.runReq := .run })
  { s2 with freeze.ret := false }

theorem apply_eq (pl : Plan) (s : State) : apply pl s = applyRequest pl s.lpr.phase
    (if pl.target = .anticrease then planStart pl (applyRecord pl s) else applyRecord pl s) := rfl

theorem apply_blind (pl : Plan) : PortBlind (apply pl) := by
  have h : PortBlind (applyRecord pl) :=
    PortBlind.comp (f := fun s => { s with freeze.ret := false }) (by intro s p q; cases p <;> rfl)
      ((applyPhase_blind pl).comp ((preloadTarget_blind pl).comp
        (g := fun s => { s with lpr.deficit := pl.dPrime, lpr.runReq := .run }) (by intro s p q; cases p <;> rfl)))
  exact PortBlind.param (f := fun old s => applyRequest pl old
      (if pl.target = .anticrease then planStart pl (applyRecord pl s) else applyRecord pl s)) (v := fun s => s.lpr.phase)
    (fun old => (applyRequest_blind pl old).comp (PortBlind.ite (fun _ _ _ => rfl) ((planStart_blind pl).comp h) h))
    (by intro s p q; cases p <;> rfl)

/-! ### The frame of a command -/

/-- A command's frame on a port that takes frames: the state is the one that the block leaves, with its answer in the port. -/
theorem exec_answers {c : Instr} {p : Port} {s t : State} {cmd cls : Code} {idx : Index} {data d : Word} {r : Result}
    (hf : c.frame = some (p, frameOf cmd cls idx data)) (hc : cmd ≠ 15) (ht : takesFrames p s)
    (hd : dealFrame p (frameOf cmd cls idx data) (s.unmarked p) = ⟨t.unmarked p, r, d⟩) :
    exec c s = .next (t.withAnswer p (answerOf cmd r idx d (ackOf cmd cls r))) := by
  rw [exec_of_frame s hf, receiveFrame, frameIn_frameOf ht hc hd]

/-- As `exec_answers`, for a WRITE. -/
theorem exec_write {c : Instr} {p : Port} {s t : State} {cls : Code} {idx : Index} {data d : Word} {r : Result}
    (hf : c.frame = some (p, frameOf 2 cls idx data)) (ht : takesFrames p s)
    (hd : dealWrite p cls idx data (s.unmarked p) = ⟨t.unmarked p, r, d⟩) :
    exec c s = .next (t.withAnswer p (answerOf 2 r idx d (ackOf 2 cls r))) :=
  exec_answers hf (by decide) ht (by rw [dealFrame_write, hd])

end Sys2Proof.Machine
end

section
/-! PROOFS. WRITEs of the Live Progress Record (O23, O25 to O28) and the frames that no block takes (O17). -/

set_option Elab.async false

namespace Sys2Proof.Machine

/-! ### Replies on the state whose mark was cleared -/

theorem answeredFree_unmarked (r : Result) (s : State) (p : Port) : answeredFree r (s.unmarked p) =
    ⟨({ s with freeCount := s.freeCount + 1 } : State).unmarked p, r, Config.freeData s.freeCount⟩ := by
  cases p <;> rfl

theorem readLive_unmarked (s : State) (p : Port) (i : Nat) : readLive (s.unmarked p) i = readLive s i := by
  cases p <;> rfl

theorem liveAnswer_unmarked (r : Result) (i : Nat) (s : State) (p : Port) :
    liveAnswer r i (s.unmarked p) = ⟨s.unmarked p, r, (readLive s i).2⟩ := by
  rw [liveAnswer, readLive_unmarked]

/-! ### The checks of a LIVE write (O23) -/

section LiveWrite

variable {p owner : Port} {i : Nat} {free : Bool} {take : State → Reply} {s : State}

theorem liveWrite_unbuilt (hb : s.built = false) : liveWrite owner p i free take s = answeredFree .busy s := if_pos hb

theorem liveWrite_notOwner (hb : s.built = true) (hp : p ≠ owner) :
    liveWrite owner p i free take s = liveAnswer .notOwner i s := by
  simp [liveWrite, hb, hp]

theorem liveWrite_shut (hb : s.built = true) (hm : s.mayWrite p = false) :
    liveWrite p p i free take s = liveAnswer .wrongState i s := by
  simp [liveWrite, hb, hm]

/-- The three checks before a field's own rule, on a port that takes frames. -/
theorem exec_liveWrite {c : Instr} {idx : Index} {data : Word} (hf : c.frame = some (p, frameOf 2 0 idx data))
    (ht : takesFrames p s)
    (hd : dealWrite p 0 idx data (s.unmarked p) = liveWrite owner p i free take (s.unmarked p)) :
    (s.built = false → ∃ d,
      exec c s = .next (({ s with freeCount := s.freeCount + 1 } : State).withAnswer p (answerOf 2 .busy idx d .refused)))
    ∧ (s.built = true → p ≠ owner → exec c s = .next (s.withAnswer p (answerOf 2 .notOwner idx (readLive s i).2 .refused)))
    ∧ (s.built = true → p = owner → s.mayWrite p = false →
      exec c s = .next (s.withAnswer p (answerOf 2 .wrongState idx (readLive s i).2 .refused))) := by
  have hb' : (s.unmarked p).built = s.built := s.unmarked_built p
  refine ⟨fun hb => ⟨Config.freeData s.freeCount, exec_write hf ht ?_⟩, fun hb hp => exec_write hf ht ?_, fun hb hp hm => exec_write hf ht ?_⟩
  · rw [hd, liveWrite_unbuilt (hb'.trans hb), answeredFree_unmarked]
  · rw [hd, liveWrite_notOwner (hb'.trans hb) hp, liveAnswer_unmarked]
  · subst hp
    rw [hd, liveWrite_shut (hb'.trans hb) ((s.unmarked_mayWrite p p).trans hm), liveAnswer_unmarked]

end LiveWrite

/-- The values held by the five fields that a port may write. -/
theorem readLive_value {s : State} (hb : s.built = true) :
    (readLive s 0).2 = BitVec.ofNat 16 s.lpr.programme.val ∧ (readLive s 1).2 = BitVec.ofNat 16 s.lpr.options.code
    ∧ (readLive s 2).2 = BitVec.ofNat 16 s.lpr.runReq.code ∧ (readLive s 3).2 = BitVec.ofNat 16 s.lpr.phase.code
    ∧ (readLive s 4).2 = BitVec.ofNat 16 s.lpr.deficit :=
  ⟨congrArg Prod.snd (readLive_row s hb 0), congrArg Prod.snd (readLive_row s hb 1), congrArg Prod.snd (readLive_row s hb 2),
    congrArg Prod.snd (readLive_row s hb 3), congrArg Prod.snd (readLive_row s hb 4)⟩

theorem runReq_ofCode_none {n : Nat} (h : 4 ≤ n) : RunReq.ofCode n = none := by
  unfold RunReq.ofCode
  split
  case h_4 => rfl
  all_goals omega

theorem phase_ofCode_none {n : Nat} (h : 5 ≤ n) : Phase.ofCode n = none := by
  unfold Phase.ofCode
  split
  case h_6 => rfl
  all_goals omega

theorem takeRunReq_badValue {data : Word} {s : State} (h : 4 ≤ data.toNat) : takeRunReq data s = liveAnswer .badValue 2 s := by
  have h3 : data ≠ 3 := by
    rintro rfl
    exact absurd h (by decide)
  rw [takeRunReq, if_neg h3, runReq_ofCode_none h]

theorem takePhase_badValue {data : Word} {s : State} (h : 5 ≤ data.toNat) : takePhase data s = liveAnswer .badValue 3 s := by
  rw [takePhase, phase_ofCode_none h]

/-- Settles O23: the same three checks for every field, and the two values out of range. -/
theorem liveWritesAreChecked : Obligations.LiveWritesAreChecked := by
  intro p owner i c data old s ht hc
  have hb' : (s.unmarked p).built = s.built := s.unmarked_built p
  have hm' : (s.unmarked p).mayWrite p = s.mayWrite p := s.unmarked_mayWrite p p
  -- The field's own refusal is left to the run request and the phase.
  have hchecks {k : Nat} {w : Word} {open' : Bool} {take : State → Reply} (hf : c.frame = some (p, frameOf 2 0 i w))
      (hd : dealWrite p 0 i w (s.unmarked p) = liveWrite owner p k open' take (s.unmarked p))
      (hold : s.built = true → (readLive s k).2 = old)
      (hbad : s.built = true → p = owner → s.mayWrite p = true →
        (c = .writeRunRequest p data ∧ 4 ≤ data.toNat) ∨ (c = .writePhase p data ∧ 5 ≤ data.toNat) →
        exec c s = .next (s.withAnswer p (answerOf 2 .badValue i old .refused))) :
      (s.built = false → ∃ d,
        exec c s = .next (({ s with freeCount := s.freeCount + 1 } : State).withAnswer p (answerOf 2 .busy i d .refused)))
      ∧ (s.built = true → p ≠ owner → exec c s = .next (s.withAnswer p (answerOf 2 .notOwner i old .refused)))
      ∧ (s.built = true → p = owner → s.mayWrite p = false →
        exec c s = .next (s.withAnswer p (answerOf 2 .wrongState i old .refused)))
      ∧ (s.built = true → p = owner → s.mayWrite p = true →
        (c = .writeRunRequest p data ∧ 4 ≤ data.toNat) ∨ (c = .writePhase p data ∧ 5 ≤ data.toNat) →
        exec c s = .next (s.withAnswer p (answerOf 2 .badValue i old .refused))) := by
    obtain ⟨h1, h2, h3⟩ := exec_liveWrite hf ht hd
    exact ⟨h1, fun hb hp => hold hb ▸ h2 hb hp, fun hb hp hm => hold hb ▸ h3 hb hp hm, hbad⟩
  have hno {x y z : Prop} (h : ¬x) (k : ¬y) : (x ∧ 4 ≤ data.toNat) ∨ (y ∧ 5 ≤ data.toNat) → z :=
    fun hor => hor.elim (fun hx => absurd hx.1 h) fun hy => absurd hy.1 k
  rcases hc with ⟨rfl, rfl, rfl, rfl⟩ | ⟨rfl, rfl, rfl, rfl⟩ | ⟨hc, rfl, rfl, rfl⟩ | ⟨rfl, rfl, rfl, rfl⟩ | ⟨rfl, rfl, rfl, rfl⟩
  · exact hchecks rfl rfl (fun hb => (readLive_value hb).1) fun _ _ _ => hno nofun nofun
  · exact hchecks rfl rfl (fun hb => (readLive_value hb).2.1) fun _ _ _ => hno nofun nofun
  · rcases hc with rfl | rfl
    · refine hchecks rfl rfl (fun hb => (readLive_value hb).2.2.1) fun hb hp hm hor => ?_
      subst hp
      obtain ⟨-, hv⟩ | ⟨hx, -⟩ := hor
      · refine exec_write rfl ht (?_ : dealRunRequest .panel data (s.unmarked .panel) = _)
        rw [dealRunRequest, liveWrite_taken (hb'.trans hb) (hm'.trans hm) rfl, takeRunReq_badValue hv, liveAnswer_unmarked,
          (readLive_value hb).2.2.1]
      · exact nomatch hx
    · exact hchecks rfl rfl (fun hb => (readLive_value hb).2.2.1) fun _ _ _ => hno nofun nofun
  · refine hchecks rfl rfl (fun hb => (readLive_value hb).2.2.2.1) fun hb hp hm hor => ?_
    subst hp
    obtain ⟨hx, -⟩ | ⟨-, hv⟩ := hor
    · exact nomatch hx
    · refine exec_write rfl ht (?_ : dealPhase .drive data (s.unmarked .drive) = _)
      rw [dealPhase, liveWrite_taken (hb'.trans hb) (hm'.trans hm) rfl, takePhase_badValue hv, liveAnswer_unmarked,
        (readLive_value hb).2.2.2.1]
  · exact hchecks rfl rfl (fun hb => (readLive_value hb).2.2.2.2) fun _ _ _ => hno nofun nofun

end Sys2Proof.Machine
end

section
/-! PROOFS. Taken WRITEs of the Live Progress Record and what they do to the scheduler (O25 to O28). -/

set_option Elab.async false

namespace Sys2Proof.Machine

/-! ### The engine's next work, and a rest of the scheduler -/

/-- Taking the next work moves nothing but the engine and the chain's match key. -/
theorem serve_eq (s : State) : ∃ e k, serve s =
    { s with engine := e, outage := { s.outage with summary := { s.outage.summary with matchKey := k } } } := by
  unfold serve startWork startEntry
  repeat' split
  all_goals exact ⟨_, _, rfl⟩

theorem enterRest_rested (ms : Nat) (s : State) : restedOrEnded ms s (enterRest ms s) := by
  unfold restedOrEnded
  split
  case isTrue h =>
    unfold enterRest windowTest
    rw [if_pos (by exact h)]
    exact endOwn_ended _ _
  case isFalse h => exact if_neg h

/-! ### A field's own rule, with its frame -/

section Act

variable {p : Port} {c : Instr} {i : Nat} {r : Result} {idx : Index} {data : Word} {s : State} {f : State → State}

/-- The owner's write that its block takes by the act `f`. -/
theorem exec_liveAct {free : Bool} {take : State → Reply} (hc : c.frame = some (p, frameOf 2 0 idx data)) (ht : takesFrames p s)
    (hb : s.built = true) (hm : s.mayWrite p = true) (hfree : free = true)
    (hd : dealWrite p 0 idx data (s.unmarked p) = liveWrite p p i free take (s.unmarked p))
    (htake : take (s.unmarked p) = liveAnswer r i (f (s.unmarked p))) (hf : PortBlind f) {d : Word}
    (hv : (readLive (f s) i).2 = d) : exec c s = .next ((f s).withAnswer p (answerOf 2 r idx d (ackOf 2 0 r))) := by
  refine exec_write hc ht ?_
  rw [← hv, hd, liveWrite_taken ((s.unmarked_built p).trans hb) ((s.unmarked_mayWrite p p).trans hm) hfree, htake, hf.unmarked,
    liveAnswer_unmarked]

/-- The owner's write that the field's own rule refuses. -/
theorem exec_liveRefused {free : Bool} {take : State → Reply} (hc : c.frame = some (p, frameOf 2 0 idx data))
    (ht : takesFrames p s) (hb : s.built = true) (hm : s.mayWrite p = true) (hfree : free = true)
    (hd : dealWrite p 0 idx data (s.unmarked p) = liveWrite p p i free take (s.unmarked p))
    (htake : take (s.unmarked p) = liveAnswer r i (s.unmarked p)) {d : Word} (hv : (readLive s i).2 = d) :
    exec c s = .next (s.withAnswer p (answerOf 2 r idx d (ackOf 2 0 r))) :=
  exec_liveAct (f := fun s => s) hc ht hb hm hfree hd htake PortBlind.id hv

end Act

theorem readLive_runReq {s : State} (hb : s.built = true) : (readLive s 2).2 = BitVec.ofNat 16 s.lpr.runReq.code :=
  (readLive_value hb).2.2.1

theorem readLive_phase {s : State} (hb : s.built = true) : (readLive s 3).2 = BitVec.ofNat 16 s.lpr.phase.code :=
  (readLive_value hb).2.2.2.1

/-! ### Options and deficit (O25) -/

theorem options_ofCode_eq : ∀ n ≤ 7, Options.ofCode n = ⟨n % 2 == 1, n / 2 % 2 == 1, n / 4 == 1⟩ := by decide

theorem options_code_ofCode : ∀ n ≤ 7, (Options.ofCode n).code = n := by decide

/-- Settles O25: both values are stored as they are, held to their range, or refused. -/
theorem optionsAndDeficitWrites : Obligations.OptionsAndDeficitWrites := by
  refine ⟨fun data s ht hb hm => ⟨fun hv => ?_, fun hv => ?_⟩, fun data s ht hb hm => ⟨fun hv => ?_, fun hv => ?_⟩⟩
  · rw [← options_ofCode_eq _ hv]
    exact exec_liveAct (c := .writeOptions .panel data) (i := 1)
      (f := fun s => { s with lpr := { s.lpr with options := Options.ofCode data.toNat } })
      rfl ht hb hm rfl rfl (if_pos hv) (by intro s p q; cases p <;> rfl)
      ((readLive_value (by exact hb)).2.1.trans (by rw [options_code_ofCode _ hv, BitVec.ofNat_toNat, BitVec.setWidth_eq]))
  · exact exec_liveRefused (c := .writeOptions .panel data) (i := 1) rfl ht hb hm rfl rfl (if_neg (by omega))
      (readLive_value hb).2.1
  · have h := exec_liveAct (c := .writeDeficit .drive data) (i := 4)
      (f := fun s => { s with lpr := { s.lpr with deficit := min 1000 data.toNat } })
      rfl ht hb hm rfl rfl (by rw [takeDeficit, if_pos hv]) (by intro s p q; cases p <;> rfl) (readLive_value (by exact hb)).2.2.2.2
    dsimp only at h
    rwa [min_eq_right hv, BitVec.ofNat_toNat, BitVec.setWidth_eq] at h
  · have h := exec_liveAct (c := .writeDeficit .drive data) (i := 4)
      (f := fun s => { s with lpr := { s.lpr with deficit := min 1000 data.toNat } })
      rfl ht hb hm rfl rfl (by rw [takeDeficit, if_neg (by omega)]) (by intro s p q; cases p <;> rfl)
      (readLive_value (by exact hb)).2.2.2.2
    dsimp only at h
    rwa [min_eq_left (by omega)] at h

/-! ### Run request and CANCEL (O26) -/

theorem takeRunReq_code (r : RunReq) (s : State) : takeRunReq (BitVec.ofNat 16 r.code) s = liveAnswer .ok 2 (storeRunReq r s) := by
  cases r <;> rfl

/-- The state after a write of the run request. -/
theorem exec_writeRunRequest {s : State} (r : RunReq) (ht : takesFrames .panel s) (hb : s.built = true)
    (hm : s.runClosed = true) : exec (.writeRunRequest .panel (BitVec.ofNat 16 r.code)) s =
      .next ((storeRunReq r s).withAnswer .panel (answerOf 2 .ok 2 (readLive (storeRunReq r s) 2).2 .taken)) :=
  exec_liveAct (c := .writeRunRequest .panel _) (f := storeRunReq r) rfl ht hb hm rfl rfl (takeRunReq_code r _)
    (storeRunReq_blind r) rfl

/-- The state after CANCEL. -/
theorem exec_cancel {s : State} (ht : takesFrames .panel s) (hb : s.built = true) (hm : s.runClosed = true) :
    exec (.cancel .panel) s =
      .next ((cancelProgramme s).withAnswer .panel (answerOf 2 .ok 2 (readLive (cancelProgramme s) 2).2 .taken)) :=
  exec_liveAct (c := .cancel .panel) (f := cancelProgramme) rfl ht hb hm rfl rfl rfl cancelProgramme_blind rfl

theorem storeRunReq_same {r : RunReq} {s : State} (h : s.lpr.runReq = r) : storeRunReq r s = s := if_pos h

theorem storeRunReq_plain {r : RunReq} {s : State} (h : s.lpr.runReq ≠ r) (hr : r = .run ∨ s.sched.state.tmb = false) :
    storeRunReq r s = { s with lpr := { s.lpr with runReq := r } } := by
  unfold storeRunReq suspendSched
  rw [if_neg h]
  obtain rfl | ht := hr
  · rfl
  · by_cases hrun : r = .run
    · exact if_pos hrun
    · exact (if_neg hrun).trans (if_neg (Bool.eq_false_iff.mp ht))

theorem storeRunReq_rests {r : RunReq} {s : State} (h : s.lpr.runReq ≠ r) (hr : r ≠ .run) (ht : s.sched.state.tmb = true) :
    storeRunReq r s = serve (enterRest (s.sched.period * 1000) { s with lpr := { s.lpr with runReq := r } }) := by
  unfold storeRunReq suspendSched
  rw [if_neg h]
  exact (if_neg hr).trans (if_pos ht)

/-- Neither taking the next work nor the answer's own field unbuilds the record. -/
theorem readLive_serve (s : State) (i : Nat) : readLive (serve s) i = readLive s i := by
  obtain ⟨e, k, h⟩ := serve_eq s
  rw [h]
  rfl

theorem schedulerEnded_built {r : EndReason} {s u : State} (h : schedulerEnded r s u) : u.built = s.built := by
  obtain ⟨v, hv, rfl⟩ := h
  unfold partWroteDone at hv
  split at hv
  · subst hv; rfl
  · obtain ⟨ts, sc, pa, da, q, rfl, -⟩ := hv; rfl

theorem restedOrEnded_built {ms : Nat} {s u : State} (h : restedOrEnded ms s u) : u.built = s.built := by
  unfold restedOrEnded at h
  split at h
  · exact schedulerEnded_built h
  · subst h; rfl

/-- Settles O26: a run request stores, and rests a scheduler with a pulse in hand; CANCEL writes DONE. -/
theorem runRequestAndCancelWrites : Obligations.RunRequestAndCancelWrites := by
  intro s ht hb hm
  refine ⟨fun r => ⟨fun h => ?_, fun h hr => ?_, fun h hr htmb => ?_⟩, fun h => ?_, fun h => ?_⟩
  · have he := exec_writeRunRequest r ht hb hm
    rwa [storeRunReq_same h, readLive_runReq hb, h] at he
  · have he := exec_writeRunRequest r ht hb hm
    rw [storeRunReq_plain h hr, readLive_runReq (by exact hb)] at he
    exact he
  · refine ⟨_, enterRest_rested _ _, ?_⟩
    have hu := restedOrEnded_built (enterRest_rested (s.sched.period * 1000) { s with lpr := { s.lpr with runReq := r } })
    have he := exec_writeRunRequest r ht hb hm
    rwa [storeRunReq_rests h hr htmb, readLive_serve, (readLive_value (hu.trans hb)).2.2.1] at he
  · have he := exec_cancel ht hb hm
    rw [cancelProgramme, if_pos h, readLive_runReq (by exact hb)] at he
    exact he
  · refine ⟨_, changeToDone_changed s .cancel, ?_⟩
    have he := exec_cancel ht hb hm
    rw [cancelProgramme, if_neg h, readLive_serve] at he
    obtain ⟨ts, sc, pa, da, q, hu, -⟩ := changeToDone_changed s .cancel
    have hr : (readLive (changeToDone .cancel s) 2).2 = 0 := by
      rw [hu]
      exact readLive_runReq hb
    rwa [hr] at he

/-! ### The phase (O27) -/

theorem transitionAllowed_iff (old ph : Phase) (r : RunReq) : transitionAllowed old ph r = true ↔ driveMayWritePhase old ph r := by
  unfold driveMayWritePhase plainTransitions startTransitions
  cases old <;> cases ph <;> simp [transitionAllowed]

theorem takePhase_code {ph : Phase} {s : State} (h : driveMayWritePhase s.lpr.phase ph s.lpr.runReq) :
    takePhase (BitVec.ofNat 16 ph.code) s = liveAnswer .ok 3 (serve (changePhase ph s)) := by
  have hc : Phase.ofCode (BitVec.ofNat 16 ph.code).toNat = some ph := by cases ph <;> rfl
  rw [takePhase, hc]
  exact if_pos ((transitionAllowed_iff _ _ _).mpr h)

theorem takePhase_refused {ph : Phase} {s : State} (h : ¬driveMayWritePhase s.lpr.phase ph s.lpr.runReq) :
    takePhase (BitVec.ofNat 16 ph.code) s = liveAnswer .badValue 3 s := by
  have hc : Phase.ofCode (BitVec.ofNat 16 ph.code).toNat = some ph := by cases ph <;> rfl
  rw [takePhase, hc]
  exact if_neg (mt (transitionAllowed_iff _ _ _).mp h)

/-- The state after a phase write that Table 1-4 allows. -/
theorem exec_writePhase {s : State} {ph : Phase} (ht : takesFrames .drive s) (hb : s.built = true)
    (hm : s.mayWrite .drive = true) (h : driveMayWritePhase s.lpr.phase ph s.lpr.runReq) :
    exec (.writePhase .drive (BitVec.ofNat 16 ph.code)) s =
      .next ((serve (changePhase ph s)).withAnswer .drive (answerOf 2 .ok 3 (readLive (changePhase ph s) 3).2 .taken)) := by
  have he := exec_liveAct (c := .writePhase .drive (BitVec.ofNat 16 ph.code)) (f := fun s => serve (changePhase ph s)) (i := 3)
    (r := .ok) (take := takePhase (BitVec.ofNat 16 ph.code)) (free := true) rfl ht hb hm rfl rfl
    (takePhase_code ((s.unmarked_lpr .drive).symm ▸ h)) (serve_blind.comp (changePhase_blind ph)) rfl
  rwa [readLive_serve] at he

/-- A change into HEAT or COOL from a phase other than ANTICREASE clears the clock and requests a PHASE entry. -/
theorem changePhase_plain {ph : Phase} {s : State} (hph : ph = .heat ∨ ph = .cool) (hs : s.lpr.phase ≠ .anticrease) :
    changePhase ph s = requestPhase (putPhase ph 0 s) := by
  have hd : ph ≠ .done := by rcases hph with rfl | rfl <;> decide
  have ha : ph ≠ .anticrease := by rcases hph with rfl | rfl <;> decide
  simp only [changePhase, if_neg hd, if_neg ha, if_neg hs]

theorem driveMayWritePhase_ne_anticrease {old ph : Phase} {r : RunReq} (h : driveMayWritePhase old ph r)
    (hph : ph = .heat ∨ ph = .cool) : old ≠ .anticrease := by
  rintro rfl
  rcases hph with rfl | rfl <;> simp [driveMayWritePhase, plainTransitions, startTransitions] at h

/-- Settles O27: by the transition asked for. -/
theorem phaseWrites : Obligations.PhaseWrites := by
  intro ph s ht hb hm
  refine ⟨fun hph hallow => ?_, fun hph hallow => ?_, fun hno => ?_⟩
  · have he := exec_writePhase ht hb hm hallow
    rw [changePhase_plain hph (driveMayWritePhase_ne_anticrease hallow hph)] at he
    obtain ⟨q, hq, hreq⟩ := requestPhase_cases (putPhase ph 0 s)
    rw [hq] at he
    refine ⟨_, q, rfl, hreq, he.trans ?_⟩
    rw [readLive_phase (by exact hb)]
    rfl
  · subst hph
    have he := exec_writePhase ht hb hm hallow
    refine ⟨_, changeToDone_changed s .phase, he.trans ?_⟩
    obtain ⟨ts, sc, pa, da, q, hu, -⟩ := changeToDone_changed s .phase
    have hr : (readLive (changePhase .done s) 3).2 = 4 := by
      rw [show changePhase .done s = changeToDone .phase s from rfl, hu]
      exact readLive_phase hb
    rw [hr]
    rfl
  · exact exec_liveRefused (c := .writePhase .drive (BitVec.ofNat 16 ph.code)) (i := 3) (r := .badValue)
      (take := takePhase (BitVec.ofNat 16 ph.code)) (free := true) rfl ht hb hm rfl rfl
      (takePhase_refused ((s.unmarked_lpr .drive).symm ▸ hno)) (readLive_phase hb)

/-! ### The fresh start (O28) -/

theorem has_add_self (a : Alerts) (x : Alert) : (a.add x).has x.num = true := by simp [Alerts.has_add]

/-- What an ending of the scheduler's own leaves, of a phase other than DONE. -/
structure EndedInDone (r : EndReason) (s t : State) : Prop where
  phase : t.lpr.phase = .done
  runReq : t.lpr.runReq = .stopped
  clock : t.lpr.phaseClock = 0
  sched : t.sched.state = .ended
  reason : t.sched.endReason = r
  panelTold : t.panelAlerts.has Alert.anticreaseEnd.num = true
  driveTold : t.driveAlerts.has Alert.anticreaseEnd.num = true
  built : t.built = s.built
  settings : t.settings = s.settings
  journal : t.journal = s.journal
  sensing : t.sensing = s.sensing
  mains : t.mains = s.mains
  freeze : t.freeze = s.freeze
  handover : t.handover = s.handover
  plan : t.plan = s.plan

namespace EndedInDone

variable {r : EndReason} {s t : State}

theorem of_ended (hs : s.lpr.phase ≠ .done) (h : schedulerEnded r s t) : EndedInDone r s t := by
  obtain ⟨v, hv, rfl⟩ := h
  unfold partWroteDone at hv
  rw [if_neg hs] at hv
  obtain ⟨ts, sc, pa, da, q, rfl, -, hsc, -⟩ := hv
  rw [if_neg (fun h => Bool.false_ne_true h.2)] at hsc
  obtain ⟨rfl, rfl, rfl⟩ := hsc
  exact ⟨rfl, rfl, rfl, rfl, rfl, has_add_self _ _, has_add_self _ _, rfl, rfl, rfl, rfl, rfl, rfl, rfl, rfl⟩

/-- A move of the engine, the outage record, or the ports. -/
theorem aside {u : State} (h : EndedInDone r s t) (hu : ∃ e o pp dp, u = { t with engine := e, outage := o, panelPort := pp, drivePort := dp }) :
    EndedInDone r s u := by
  obtain ⟨e, o, pp, dp, rfl⟩ := hu
  obtain ⟨h1, h2, h3, h4, h5, h6, h7, h8, h9, h10, h11, h12, h13, h14, h15⟩ := h
  exact ⟨h1, h2, h3, h4, h5, h6, h7, h8, h9, h10, h11, h12, h13, h14, h15⟩

theorem requestPhase (h : EndedInDone r s t) : EndedInDone r s (requestPhase t) := by
  obtain ⟨q, hq, -⟩ := requestPhase_cases t
  exact h.aside ⟨_, _, _, _, hq⟩

theorem serve (h : EndedInDone r s t) : EndedInDone r s (serve t) := by
  obtain ⟨e, k, hk⟩ := serve_eq t
  exact h.aside ⟨_, _, _, _, hk⟩

end EndedInDone

/-- COOL to ANTICREASE is a fresh start of the scheduler. -/
theorem changePhase_anticrease {s : State} (h : s.lpr.phase = .cool) :
    changePhase .anticrease s = requestPhase (freshStart (putPhase .anticrease 0 s)) := by
  simp [changePhase, h]

/-- A fresh start with a window to go rests for P. -/
theorem freshStart_rests {s : State} (hn : s.lpr.options.noAnticrease = false)
    (hw : s.lpr.phaseClock < (s.settings.prof s.lpr.programme).wSec s.lpr.options) :
    freshStart s = { freshCopies s with
      sched := { (freshCopies s).sched with
        state := .resting, remaining := (s.settings.prof s.lpr.programme).period * 1000 } } := by
  rw [freshStart_eq, if_neg (Bool.eq_false_iff.mp hn), enterRest, windowTest]
  exact if_neg (Nat.not_le.mpr hw)

/-- A fresh start without a window, or not wanted, ends at once. -/
theorem freshStart_ends {s : State} (hs : s.lpr.phase ≠ .done)
    (h : s.lpr.options.noAnticrease = true ∨ (s.settings.prof s.lpr.programme).wSec s.lpr.options = 0) :
    EndedInDone (if s.lpr.options.noAnticrease then .phase else .window) s (freshStart s) := by
  rw [freshStart_eq]
  by_cases hn : s.lpr.options.noAnticrease = true
  · rw [if_pos hn, if_pos hn]
    obtain ⟨h1, h2, h3, h4, h5, h6, h7, h8, h9, h10, h11, h12, h13, h14, h15⟩ :=
      EndedInDone.of_ended (s := freshCopies s) hs (endOwn_ended _ .phase)
    exact ⟨h1, h2, h3, h4, h5, h6, h7, h8, h9, h10, h11, h12, h13, h14, h15⟩
  · have hw : (s.settings.prof s.lpr.programme).wSec s.lpr.options ≤ s.lpr.phaseClock :=
      (h.resolve_left hn).trans_le (Nat.zero_le _)
    rw [if_neg hn, if_neg hn, enterRest, windowTest, if_pos (by exact hw)]
    obtain ⟨h1, h2, h3, h4, h5, h6, h7, h8, h9, h10, h11, h12, h13, h14, h15⟩ :=
      EndedInDone.of_ended (s := { freshCopies s with
        sched.state := .resting, sched.remaining := (s.settings.prof s.lpr.programme).period * 1000 }) hs (endOwn_ended _ .window)
    exact ⟨h1, h2, h3, h4, h5, h6, h7, h8, h9, h10, h11, h12, h13, h14, h15⟩

/-- Settles O28: the fresh start rests or ends, and the PHASE request and the answer follow. -/
theorem freshStartOfTheScheduler : Obligations.FreshStartOfTheScheduler := by
  intro s ht hb hm hcool
  have hallow : driveMayWritePhase s.lpr.phase .anticrease s.lpr.runReq := by
    rw [hcool]
    exact .inl (by decide)
  have he := exec_writePhase ht hb hm hallow
  rw [changePhase_anticrease hcool] at he
  refine ⟨fun hn hw => ?_, fun hend => ?_⟩
  · rw [freshStart_rests (s := putPhase .anticrease 0 s) hn hw] at he
    obtain ⟨q, hq, hreq⟩ := requestPhase_cases { freshCopies (putPhase .anticrease 0 s) with
      sched := { (freshCopies (putPhase .anticrease 0 s)).sched with
        state := .resting, remaining := (s.settings.prof s.lpr.programme).period * 1000 } }
    refine ⟨_, q, rfl, hreq, he.trans ?_⟩
    dsimp only [putPhase] at hq ⊢
    rw [hq, readLive_phase (by exact hb)]
    rfl
  · refine ⟨_, he, ?_⟩
    have hfresh := (freshStart_ends (s := putPhase .anticrease 0 s) (by exact nofun) hend).requestPhase
    have hval : (readLive (requestPhase (freshStart (putPhase .anticrease 0 s))) 3).2 = 4 := by
      rw [(readLive_value (hfresh.built.trans hb)).2.2.2.1, hfresh.phase]
      rfl
    rw [hval]
    obtain ⟨h1, h2, h3, h4, h5, h6, h7, h8, h9, h10, h11, h12, h13, h14, h15⟩ := hfresh.serve
    exact ⟨h1, h2, h3, h4, h5, h6, h7, rfl, h9, h10, h11, h12, h13, h14, h15⟩

end Sys2Proof.Machine
end

section
/-! PROOFS. The frames that no block takes (spec/11_frame_ports.md section 11.6; O17). -/

set_option Elab.async false

namespace Sys2Proof.Machine

/-! ### Refusals with data 0 -/

/-- A frame that no block takes, whatever its command: nothing moves but its answer. -/
theorem exec_refused {c : Instr} {p : Port} {s : State} {cmd cls : Code} {idx : Index} {data : Word} {r : Result}
    (hf : c.frame = some (p, frameOf cmd cls idx data)) (hw : frameOf cmd cls idx data ≠ allOnesFrame) (ht : takesFrames p s)
    (hr : r.takes = false) (hd : dealFrame p (frameOf cmd cls idx data) (s.unmarked p) = refusedPlain r (s.unmarked p)) :
    exec c s = .next (s.withAnswer p (answerOf cmd r idx 0 .refused)) := by
  have hack : ackOf cmd cls r = .refused := by rw [ackOf, hr]; rfl
  rw [exec_of_frame s hf, receiveFrame_taken ht hw, hd, refusedPlain, loadAnswer_frameOf, hack]

section ReadOnly

variable {p : Port} {cls : Code} {idx : Index} {data : Word} {s : State} {r : Result}

/-- A WRITE that its object refuses plainly. -/
theorem exec_writeReadOnly_refused (ht : takesFrames p s) (hr : r.takes = false)
    (hd : dealWrite p cls idx data (s.unmarked p) = refusedPlain r (s.unmarked p)) :
    exec (.writeReadOnlyObject p cls idx data) s = .next (s.withAnswer p (answerOf 2 r idx 0 .refused)) :=
  exec_refused rfl (frameOf_ne_allOnes _ _ _ _ (by decide)) ht hr (by rw [dealFrame_write, hd])

/-! ### What each object refuses -/

theorem dealWrite_readOnlyClass (h : cls.toNat ∈ [1, 4, 5, 6, 7, 12, 13]) :
    dealWrite p cls idx data s = refusedPlain .notOwner s := by
  unfold dealWrite
  simp only [List.mem_cons, List.not_mem_nil, or_false] at h
  rcases h with h | h | h | h | h | h | h <;> rw [h] <;> rfl

theorem dealWrite_noObject (h : cls.toNat ∈ [14, 15]) : dealWrite p cls idx data s = refusedPlain .badObject s := by
  unfold dealWrite
  simp only [List.mem_cons, List.not_mem_nil, or_false] at h
  rcases h with h | h <;> rw [h] <;> rfl

theorem dealWriteLive_readOnly {i : Nat} (h : 5 ≤ i) : dealWriteLive p i data s = dealLiveReadOnly i s := by
  unfold dealWriteLive
  split
  case h_6 => rfl
  all_goals omega

theorem dealLiveReadOnly_badIndex {i : Nat} (h : 8 ≤ i) : dealLiveReadOnly i s = refusedPlain .badIndex s := if_pos h

theorem dealLiveReadOnly_busy {i : Nat} (h : i ≤ 7) (hb : s.built = false) : dealLiveReadOnly i s = answeredFree .busy s :=
  (if_neg (by omega)).trans (if_pos hb)

theorem dealLiveReadOnly_noDoor (hb : s.built = true) (hd : s.sensing.door = none) :
    dealLiveReadOnly 7 s = answeredFree .notOwner s := by
  simp [dealLiveReadOnly, hb, hd]

theorem dealLiveReadOnly_value {i : Nat} (h : i ≤ 7) (hb : s.built = true) (hd : i = 7 → s.sensing.door ≠ none) :
    dealLiveReadOnly i s = liveAnswer .notOwner i s := by
  unfold dealLiveReadOnly
  rw [if_neg (by omega), if_neg (by simp [hb]), if_neg (fun h7 => hd h7.1 h7.2)]

theorem dealWriteTally_freezeSet : dealWriteTally p 24 data s = refusedPlain .notOwner s := rfl

theorem dealWriteTally_none {i : Nat} (h : 25 ≤ i ∨ (i < 24 ∧ i % 4 = 3)) :
    dealWriteTally p i data s = refusedPlain .badIndex s := by
  rw [dealWriteTally, tallyPart_none h]

theorem dealTallyCtl_none {i : Nat} (h : 48 ≤ i ∨ 6 ≤ i % 8) : dealTallyCtl p i data s = refusedPlain .badIndex s := by
  rw [dealTallyCtl, ctlField_none h]
  rfl

theorem dealAlertLevel_state {i : Nat} (h : 16 ≤ i ∧ i ≤ 20) : dealAlertLevel p i data s = refusedPlain .notOwner s := by
  rw [dealAlertLevel, levelSource_none (.inr (.inl (by omega)))]
  exact congrArg (refusedPlain · s) (if_pos h)

theorem dealAlertLevel_none {i : Nat} (h : i = 0 ∨ (13 ≤ i ∧ i ≤ 15) ∨ 21 ≤ i) :
    dealAlertLevel p i data s = refusedPlain .badIndex s := by
  rw [dealAlertLevel, levelSource_none (by omega)]
  exact congrArg (refusedPlain · s) (if_neg (by omega))

theorem settingsItem_table {cls i : Nat} {prog : Fin 16} (hc : cls = 9 ∨ cls = 10) (h : 18 ≤ i) :
    settingsItem cls prog i = none := by
  rcases hc with rfl | rfl
  · exact dif_neg (by omega)
  · exact dif_neg (by omega)

theorem settingsItem_config {i : Nat} {prog : Fin 16} (h : 8 ≤ i) : settingsItem 11 prog i = none := dif_neg (by omega)

theorem dealWrite_tables (hc : cls = 9 ∨ cls = 10) (h : 18 ≤ idx.toNat) :
    dealWrite p cls idx data s = refusedPlain .badIndex s := by
  rcases hc with rfl | rfl
  · show dealSettingAt p (settingsItem 9 s.lpr.programme idx.toNat) data s = _
    rw [settingsItem_table (.inl rfl) h]
    rfl
  · show dealSettingAt p (settingsItem 10 0 idx.toNat) data s = _
    rw [settingsItem_table (.inr rfl) h]
    rfl

theorem dealConfig_none {i : Nat} (h : 8 ≤ i) : dealConfig p i data s = refusedPlain .badIndex s := by
  rw [dealConfig, settingsItem_config h]
  rfl

/-! ### The fields of LIVE that no port writes -/

/-- A write of one of LIVE's last three fields. -/
theorem exec_writeLiveReadOnly {t : State} {d : Word} (ht : takesFrames p s) (h5 : 5 ≤ idx.toNat)
    (hd : dealLiveReadOnly idx.toNat (s.unmarked p) = ⟨t.unmarked p, r, d⟩) :
    exec (.writeReadOnlyObject p 0 idx data) s = .next (t.withAnswer p (answerOf 2 r idx d (ackOf 2 0 r))) :=
  exec_write rfl ht ((dealWriteLive_readOnly h5).trans hd)

theorem exec_writeLiveValue (ht : takesFrames p s) (h5 : 5 ≤ idx.toNat) (h7 : idx.toNat ≤ 7) (hb : s.built = true)
    (hdoor : idx.toNat = 7 → s.sensing.door ≠ none) {d : Word} (hv : (readLive s idx.toNat).2 = d) :
    exec (.writeReadOnlyObject p 0 idx data) s = .next (s.withAnswer p (answerOf 2 .notOwner idx d .refused)) := by
  refine exec_writeLiveReadOnly ht h5 ?_
  rw [← hv, dealLiveReadOnly_value h7 ((s.unmarked_built p).trans hb) (by cases p <;> exact hdoor), liveAnswer_unmarked]

theorem exec_writeLiveUnbuilt (ht : takesFrames p s) (h5 : 5 ≤ idx.toNat) (h7 : idx.toNat ≤ 7) (hb : s.built = false) :
    exec (.writeReadOnlyObject p 0 idx data) s = .next (({ s with freeCount := s.freeCount + 1 } : State).withAnswer p
      (answerOf 2 .busy idx (Config.freeData s.freeCount) .refused)) := by
  refine exec_writeLiveReadOnly ht h5 ?_
  rw [dealLiveReadOnly_busy h7 ((s.unmarked_built p).trans hb), answeredFree_unmarked]

theorem exec_writeLiveNoDoor (ht : takesFrames p s) (hb : s.built = true) (hdoor : s.sensing.door = none) :
    exec (.writeReadOnlyObject p 0 7 data) s = .next (({ s with freeCount := s.freeCount + 1 } : State).withAnswer p
      (answerOf 2 .notOwner 7 (Config.freeData s.freeCount) .refused)) := by
  refine exec_writeLiveReadOnly ht (by decide) ?_
  rw [show (7 : Index).toNat = 7 from rfl, dealLiveReadOnly_noDoor ((s.unmarked_built p).trans hb) (by cases p <;> exact hdoor),
    answeredFree_unmarked]

/-- The door's word. -/
theorem readLive_doorValue {d : Door} (hb : s.built = true) (hd : s.sensing.door = some d) :
    (readLive s 7).2 = if d = .opened then 1 else 0 := by
  rw [readLive_door s hb, hd]
  cases d <;> rfl

end ReadOnly

/-- Settles O17: each row names the rule that refuses it. -/
theorem framesNoBlockTakesAreRefused : Obligations.FramesNoBlockTakesAreRefused := by
  intro p cls idx data s ht
  -- A command of another class than its own.
  have hforeign {c : Instr} {cmd : Code} {deal : State → Reply} (hf : c.frame = some (p, frameOf cmd cls idx data))
      (hc : cmd ≠ 15) (hd : dealFrame p (frameOf cmd cls idx data) (s.unmarked p) = deal (s.unmarked p))
      (hdeal : deal (s.unmarked p) = refusedPlain .badObject (s.unmarked p)) :
      exec c s = .next (s.withAnswer p (answerOf cmd .badObject idx 0 .refused)) :=
    exec_refused hf (frameOf_ne_allOnes _ _ _ _ hc) ht rfl (hd.trans hdeal)
  refine ⟨fun h => exec_writeReadOnly_refused ht rfl (dealWrite_readOnlyClass h),
    fun h => exec_writeReadOnly_refused ht rfl (dealWrite_noObject h), ?_, ?_, ?_, ?_, ?_, ?_, ?_, ?_, ?_,
    fun hc h => exec_writeReadOnly_refused ht rfl (dealWrite_tables hc h), ?_, ?_, ?_, ?_, ?_, ?_, ?_, ?_⟩
  · rintro rfl h
    exact exec_writeReadOnly_refused ht rfl ((dealWriteLive_readOnly (by omega)).trans (dealLiveReadOnly_badIndex h))
  · rintro rfl rfl hb
    exact exec_writeLiveValue ht (by decide) (by decide) hb (fun h => absurd h (by decide))
      (congrArg Prod.snd (readLive_row s hb 5))
  · rintro rfl rfl hb
    exact exec_writeLiveValue ht (by decide) (by decide) hb (fun h => absurd h (by decide))
      (congrArg Prod.snd (readLive_row s hb 6))
  · rintro d rfl rfl hb hd
    exact exec_writeLiveValue ht (by decide) (by decide) hb (fun _ => by simp [hd]) (readLive_doorValue hb hd)
  · rintro rfl rfl
    exact exec_writeReadOnly_refused ht rfl (dealWriteTally_freezeSet (p := p) (data := data))
  · rintro rfl h
    exact exec_writeReadOnly_refused ht rfl (dealWriteTally_none h)
  · rintro rfl h
    exact exec_writeReadOnly_refused ht rfl (dealTallyCtl_none h)
  · rintro rfl h
    exact exec_writeReadOnly_refused ht rfl (dealAlertLevel_state h)
  · rintro rfl h
    refine exec_writeReadOnly_refused ht rfl (dealAlertLevel_none (h.imp_left ?_))
    rintro rfl
    rfl
  · rintro rfl h
    exact exec_writeReadOnly_refused ht rfl (dealConfig_none h)
  · rintro rfl h5 h7 hb
    exact ⟨_, exec_writeLiveUnbuilt ht h5 h7 hb⟩
  · rintro rfl rfl hb hd
    exact ⟨_, exec_writeLiveNoDoor ht hb hd⟩
  · exact fun hc => hforeign (deal := dealCheckpoint p cls) rfl (by decide) (by rw [dealFrame_frameOf]; rfl) (if_pos hc)
  · exact fun hc => hforeign (deal := dealTakeAlert p cls) rfl (by decide) (by rw [dealFrame_frameOf]; rfl) (if_pos hc)
  · exact fun hc =>
      ⟨hforeign (deal := dealConfirm p cls) rfl (by decide) (by rw [dealFrame_frameOf]; rfl) (if_pos hc),
        hforeign (deal := dealAccept p cls data) rfl (by decide) (by rw [dealFrame_frameOf]; rfl) (if_pos hc),
        hforeign (deal := dealDecline p cls) rfl (by decide) (by rw [dealFrame_frameOf]; rfl) (if_pos hc)⟩
  · exact fun hc => hforeign (deal := dealTumbleAck p cls) rfl (by decide) (by rw [dealFrame_frameOf]; rfl) (if_pos hc)
  · intro code h13 hno
    refine exec_refused rfl (fun h => hno (frameOf_eq_allOnes _ _ _ _ h)) ht rfl ?_
    rw [dealFrame_frameOf]
    split
    case h_14 => rfl
    all_goals omega

end Sys2Proof.Machine
end

section
/-! PROOFS. Frames to the tallies and the freeze set (O30), to the alert controller (O34, O36) and to the scheduler (O48). -/

set_option Elab.async false

namespace Sys2Proof.Machine

/-! ### WRITEs of a tally (R30, R31) -/

section Tally

variable {p : Port} {t : Fin 6} {high : Bool} {data : Word} {s : State}

@[simp] theorem State.unmarked_tallyStill (s : State) (p : Port) : (s.unmarked p).tallyStill t = s.tallyStill t := by
  cases p <;> rfl

theorem tallyStill_true (h : s.freeze.any = true ∨ controlUse t 5 s.tallies[t].ctl = 0) : s.tallyStill t = true := by
  rw [State.tallyStill, Bool.or_eq_true, beq_iff_eq]
  exact h

theorem tallyStill_false (hf : s.freeze.any = false) (he : controlUse t 5 s.tallies[t].ctl = 1) : s.tallyStill t = false := by
  rw [State.tallyStill, hf, he]
  rfl

theorem dealTallyValue_busy (hb : s.built = false) : dealTallyValue p t high data s = refusedPlain .busy s := if_pos hb

theorem dealTallyValue_shut (hb : s.built = true) (hm : s.mayWrite p = false) :
    dealTallyValue p t high data s = refusedPlain .wrongState s := by
  simp [dealTallyValue, hb, hm]

theorem dealTallyValue_moving (hb : s.built = true) (hm : s.mayWrite p = true) (ht : s.tallyStill t = false) :
    dealTallyValue p t high data s = refusedPlain .wrongState s := by
  simp [dealTallyValue, hb, hm, ht]

theorem dealTallyValue_taken (hb : s.built = true) (hm : s.mayWrite p = true) (ht : s.tallyStill t = true) :
    dealTallyValue p t high data s = takeTallyValue t high data s := by
  simp [dealTallyValue, hb, hm, ht]

theorem takeTallyValue_low (s : State) (p : Port) : takeTallyValue t false data (s.unmarked p) =
    ⟨(setTallyValue t (s.tallies[t].value / 65536 * 65536 + data.toNat) s).unmarked p, .ok, data⟩ := by
  cases p <;> rfl

theorem takeTallyValue_high (s : State) (p : Port) : takeTallyValue t true data (s.unmarked p) =
    ⟨(setTallyValue t (min 255 data.toNat * 65536 + s.tallies[t].value % 65536) s).unmarked p,
      if data.toNat ≤ 255 then .ok else .clamped, BitVec.ofNat 16 (min 255 data.toNat)⟩ := by
  cases p <;> rfl

theorem dealOverflow_busy (hb : s.built = false) : dealOverflow p t data s = refusedPlain .busy s := if_pos hb

theorem dealOverflow_shut (hb : s.built = true) (hm : s.mayWrite p = false) :
    dealOverflow p t data s = refusedPlain .wrongState s := by
  simp [dealOverflow, hb, hm]

theorem dealOverflow_badValue (hb : s.built = true) (hm : s.mayWrite p = true) (hd : data ≠ 0) :
    dealOverflow p t data s = refusedPlain .badValue s := by
  simp only [dealOverflow, hb, hm, Bool.true_eq_false, if_false]
  exact if_pos hd

theorem dealOverflow_cleared (hb : s.built = true) (hm : s.mayWrite p = true) :
    dealOverflow p t 0 s = answeredFree .ok (clearOverflow t s) := by
  simp [dealOverflow, hb, hm]

theorem clearOverflow_blind : PortBlind (clearOverflow t) := by intro s p q; cases p <;> rfl

/-- The index of a value part. -/
theorem dealWrite_tallyValue : dealWrite p 2 (tallyIndex t high.toNat) data = dealTallyValue p t high data := by
  cases high
  · exact dealWrite_tallyLow p data t
  · exact dealWrite_tallyHigh p data t

/-- A WRITE of a value part, by its reply. -/
theorem exec_writeTallyValue {u : State} {r : Result} {d : Word} (ht : takesFrames p s)
    (hd : dealTallyValue p t high data (s.unmarked p) = ⟨u.unmarked p, r, d⟩) :
    exec (.writeTallyValue p t high data) s = .next (u.withAnswer p
      (answerOf 2 r (BitVec.ofNat 8 (t.val * 4 + if high then 1 else 0)) d (ackOf 2 2 r))) := by
  have h := exec_write (c := .writeTallyValue p t high data) rfl ht (by rw [dealWrite_tallyValue, hd])
  cases high <;> exact h

/-- A WRITE of the overflow flag, by its reply. -/
theorem exec_clearOverflowFlag {u : State} {r : Result} {d : Word} (ht : takesFrames p s)
    (hd : dealOverflow p t data (s.unmarked p) = ⟨u.unmarked p, r, d⟩) :
    exec (.clearOverflowFlag p t data) s =
      .next (u.withAnswer p (answerOf 2 r (BitVec.ofNat 8 (t.val * 4 + 2)) d (ackOf 2 2 r))) :=
  exec_write (c := .clearOverflowFlag p t data) rfl ht ((congrFun (dealWrite_tallyFlag p data t) _).trans hd)

end Tally

/-! ### FREEZE, RELEASE and MONITOR (R25, R32) -/

section Freeze

variable {p : Port} {cls : Code} {idx : Index} {data : Word} {s : State}

theorem dealFreeze_taken : dealFreeze p 2 (s.unmarked p) =
    ⟨({ s with freeze := s.freeze.add p } : State).unmarked p, .ok, BitVec.ofNat 16 (s.freeze.add p).code⟩ := by
  cases p <;> rfl

theorem dealRelease_taken : dealRelease p 2 (s.unmarked p) =
    ⟨({ s with freeze := s.freeze.removeBy p } : State).unmarked p, .ok, BitVec.ofNat 16 (s.freeze.removeBy p).code⟩ := by
  cases p <;> rfl

theorem monitorOf_tally (h : data.toNat < 6) : monitorOf data = some (some ⟨data.toNat, h⟩) := dif_pos h

theorem monitorOf_none (h : 6 < data.toNat) : monitorOf data = none := by
  have h6 : data ≠ 6 := by
    rintro rfl
    exact absurd h (by decide)
  rw [monitorOf, dif_neg (by omega), if_neg h6]

/-- A taken MONITOR: the port's selector, its mark and its answer. -/
theorem exec_monitor {m : Option (Fin 6)} (ht : takesFrames p s) (hm : monitorOf data = some m) :
    ∃ d, exec (.monitor p 2 idx data) s = .next (({ s with freeCount := s.freeCount + 1 } : State).setPort p
      { s.port p with allOnes := false, monitor := m, resp := some (answerOf 11 .ok idx d .taken) }) := by
  refine ⟨Config.freeData s.freeCount, ?_⟩
  have hd : dealFrame p (frameOf 11 2 idx data) (s.unmarked p) =
      answeredFree .ok ((s.unmarked p).setPort p { (s.unmarked p).port p with monitor := m }) := by
    rw [dealFrame_frameOf]
    show dealMonitor p 2 data (s.unmarked p) = _
    unfold dealMonitor
    rw [if_neg (by decide), hm]
  rw [exec_of_frame (c := .monitor p 2 idx data) s rfl, receiveFrame_taken ht (frameOf_ne_allOnes _ _ _ _ (by decide)), hd]
  unfold loadAnswer answerFor answeredFree
  simp only [frameCmd_frameOf, frameClass_frameOf, frameIndex_frameOf]
  cases p <;> rfl

theorem exec_monitor_badValue (ht : takesFrames p s) (h : 6 < data.toNat) :
    exec (.monitor p 2 idx data) s = .next (s.withAnswer p (answerOf 11 .badValue idx 0 .refused)) := by
  refine exec_refused rfl (frameOf_ne_allOnes _ _ _ _ (by decide)) ht rfl ?_
  rw [dealFrame_frameOf]
  show dealMonitor p 2 data (s.unmarked p) = _
  unfold dealMonitor
  rw [if_neg (by decide), monitorOf_none h]

end Freeze

theorem Freeze.code_eq (f : Freeze) : f.code = (if f.notify then 1 else 0) + (if f.panel then 2 else 0)
    + (if f.drive then 4 else 0) + (if f.loss then 8 else 0) + (if f.ret then 16 else 0) := by
  obtain ⟨a, b, c, d, e⟩ := f
  revert a b c d e
  decide

/-- Settles O30: the checks of R30 and R31 in their order, then the freeze set's own commands. -/
theorem tallyAndFreezeCommands : Obligations.TallyAndFreezeCommands := by
  refine ⟨⟨fun p t high data s ht => ⟨fun hb => ?_, fun hb hm => ?_⟩, fun p t data s ht hb hm => ?_⟩,
    fun p cls idx data s ht => ?_⟩
  · have hb' := (s.unmarked_built p).trans hb
    exact ⟨exec_writeTallyValue ht (dealTallyValue_busy hb'), exec_clearOverflowFlag ht (dealOverflow_busy hb')⟩
  · have hb' := (s.unmarked_built p).trans hb
    have hm' := (s.unmarked_mayWrite p p).trans hm
    exact ⟨exec_writeTallyValue ht (dealTallyValue_shut hb' hm'), exec_clearOverflowFlag ht (dealOverflow_shut hb' hm')⟩
  · have hb' := (s.unmarked_built p).trans hb
    have hm' := (s.unmarked_mayWrite p p).trans hm
    refine ⟨fun hstill => ⟨?_, ?_⟩, fun hf he high => ?_, ?_, fun hd => ?_⟩
    · have hs := (s.unmarked_tallyStill p).trans (tallyStill_true hstill)
      exact exec_writeTallyValue ht ((dealTallyValue_taken hb' hm' hs).trans (takeTallyValue_low s p))
    · have hs := (s.unmarked_tallyStill p).trans (tallyStill_true hstill)
      have h := exec_writeTallyValue ht ((dealTallyValue_taken (data := data) hb' hm' hs).trans (takeTallyValue_high s p))
      have hack : ackOf 2 2 (if data.toNat ≤ 255 then .ok else .clamped) = .taken := by split <;> rfl
      rw [hack] at h
      exact h
    · exact exec_writeTallyValue ht (dealTallyValue_moving hb' hm' ((s.unmarked_tallyStill p).trans (tallyStill_false hf he)))
    · rintro rfl
      refine ⟨Config.freeData s.freeCount, exec_clearOverflowFlag (u := { clearOverflow t s with freeCount := s.freeCount + 1 })
        ht ?_⟩
      rw [dealOverflow_cleared hb' hm', clearOverflow_blind.unmarked, answeredFree_unmarked]
      rfl
    · exact exec_clearOverflowFlag ht (dealOverflow_badValue hb' hm' hd)
  · refine ⟨?_, ?_, fun hc => ⟨?_, ?_, ?_⟩, fun h => exec_monitor ht (monitorOf_tally h), ?_, exec_monitor_badValue ht,
      Freeze.code_eq⟩
    · rintro rfl
      refine ⟨_, rfl, ?_⟩
      have h := exec_answers (c := .freeze p 2 idx data) rfl (by decide) ht
        (by rw [dealFrame_frameOf]; exact dealFreeze_taken)
      cases p <;> exact h
    · rintro rfl
      refine ⟨_, rfl, ?_⟩
      have h := exec_answers (c := .release p 2 idx data) rfl (by decide) ht
        (by rw [dealFrame_frameOf]; exact dealRelease_taken)
      cases p <;> exact h
    · exact exec_refused rfl (frameOf_ne_allOnes _ _ _ _ (by decide)) ht rfl (by rw [dealFrame_frameOf]; exact if_pos hc)
    · exact exec_refused rfl (frameOf_ne_allOnes _ _ _ _ (by decide)) ht rfl (by rw [dealFrame_frameOf]; exact if_pos hc)
    · exact exec_refused rfl (frameOf_ne_allOnes _ _ _ _ (by decide)) ht rfl (by rw [dealFrame_frameOf]; exact if_pos hc)
    · rintro rfl
      exact exec_monitor ht (by decide)

/-! ### Alert levels (R169) -/

/-- Settles O34: the level of the index named, or no level at all. -/
theorem alertLevelWrites : Obligations.AlertLevelWrites := by
  intro p idx data s ht
  refine ⟨fun h h1 h7 => ?_, ?_⟩
  · have hsrc : levelSource p idx.toNat = some ⟨idx.toNat, h⟩ := by
      have h7' : ¬(idx.toNat = 7 ∧ p = .panel) := fun hx => h7 ⟨hx.2, BitVec.eq_of_toNat_eq hx.1⟩
      unfold levelSource
      rw [dif_pos h, if_neg (not_or.mpr ⟨by omega, h7'⟩)]
    have hack : ackOf 2 8 (if data.toNat ≤ 7 then .ok else .clamped) = .taken := by split <;> rfl
    rw [← hack]
    refine exec_write rfl ht (?_ : dealAlertLevel p idx.toNat data (s.unmarked p) = _)
    unfold dealAlertLevel
    rw [hsrc, ← State.unmarked_setAlerts]
    dsimp only
    rw [s.unmarked_alerts p p]
    rfl
  · rintro rfl rfl
    refine exec_refused rfl (frameOf_ne_allOnes _ _ _ _ (by decide)) ht rfl ?_
    rw [dealFrame_write]
    rfl

/-! ### TAKE_ALERT (R167) -/

/-- `i` goes before `j`: a lower level, or the same and no higher number. -/
def Alerts.Before (a : Alerts) (i j : Fin 13) : Prop :=
  a.levels[i] < a.levels[j] ∨ (a.levels[i] = a.levels[j] ∧ i ≤ j)

/-- The source chosen so far, with one more looked at (R167). -/
def Alerts.choose (a : Alerts) (best : Option (Fin 13)) (i : Fin 13) : Option (Fin 13) :=
  if a.presentable i then
    match best with
    | none => some i
    | some b => if a.levels[i] < a.levels[b] then some i else some b
  else best

theorem Alerts.first_eq (a : Alerts) : a.first =
    if a.presentable 0 then some 0 else (List.finRange 13).foldl a.choose none := rfl

/-- `r` is the most urgent presentable source of `l`, if there is one. -/
def Alerts.Chosen (a : Alerts) (l : List (Fin 13)) : Option (Fin 13) → Prop
  | none => ∀ j ∈ l, a.presentable j = false
  | some i => i ∈ l ∧ a.presentable i = true ∧ ∀ j ∈ l, a.presentable j = true → a.Before i j

/-- One more source, with a number above those before. -/
theorem Alerts.Chosen.choose {a : Alerts} {l : List (Fin 13)} {r : Option (Fin 13)} {i : Fin 13} (h : a.Chosen l r)
    (hi : ∀ j ∈ l, j ≤ i) : a.Chosen (l ++ [i]) (a.choose r i) := by
  have hmem {P : Fin 13 → Prop} (hl : ∀ j ∈ l, P j) (hx : P i) : ∀ j ∈ l ++ [i], P j := by
    intro j hj
    rcases List.mem_append.mp hj with hj | hj
    · exact hl j hj
    · exact List.mem_singleton.mp hj ▸ hx
  unfold Alerts.choose
  by_cases hp : a.presentable i = true
  · rw [if_pos hp]
    cases r with
    | none =>
      refine ⟨by simp, hp, hmem (fun j hj hpj => ?_) fun _ => .inr ⟨rfl, le_refl _⟩⟩
      rw [h j hj] at hpj
      exact nomatch hpj
    | some b =>
      obtain ⟨hb, hpb, hbest⟩ := h
      dsimp only
      split
      · rename_i hlt
        refine ⟨by simp, hp, hmem (fun j hj hpj => .inl ?_) fun _ => .inr ⟨rfl, le_refl _⟩⟩
        obtain hless | ⟨heq, -⟩ := hbest j hj hpj
        · exact hlt.trans hless
        · exact hlt.trans_eq heq
      · rename_i hnot
        refine ⟨List.mem_append_left _ hb, hpb, hmem hbest fun _ => ?_⟩
        rcases Nat.lt_or_ge (a.levels[b]) (a.levels[i]) with hlt | hge
        · exact .inl hlt
        · exact .inr ⟨le_antisymm (not_lt.mp hnot) hge, hi b hb⟩
  · rw [if_neg hp]
    cases r with
    | none => exact hmem h (Bool.eq_false_iff.mpr hp)
    | some b =>
      obtain ⟨hb, hpb, hbest⟩ := h
      exact ⟨List.mem_append_left _ hb, hpb, hmem hbest fun hpi => absurd hpi hp⟩

/-- Looking at sources in the order of their numbers finds the most urgent one. -/
theorem Alerts.chosen_foldl (a : Alerts) (l : List (Fin 13)) (hl : l.Pairwise (· ≤ ·)) : a.Chosen l (l.foldl a.choose none) := by
  induction l using List.reverseRecOn with
  | nil => exact fun j hj => absurd hj List.not_mem_nil
  | append_singleton l i ih =>
    obtain ⟨h1, -, h3⟩ := List.pairwise_append.mp hl
    rw [List.foldl_append]
    exact (ih h1).choose fun j hj => h3 j hj i (List.mem_singleton_self i)

/-- The source that TAKE_ALERT chooses, where anything is presentable. -/
theorem Alerts.first_spec {a : Alerts} (h : ∃ i, a.presentable i = true) : ∃ i, a.first = some i ∧ a.presentable i = true
    ∧ (a.presentable 0 = true → i = 0) ∧ (i ≠ 0 → ∀ j, a.presentable j = true → a.Before i j) := by
  rw [Alerts.first_eq]
  by_cases h0 : a.presentable 0 = true
  · exact ⟨0, if_pos h0, h0, fun _ => rfl, fun hne => absurd rfl hne⟩
  · rw [if_neg h0]
    have hc := a.chosen_foldl (List.finRange 13) (by decide)
    cases hr : (List.finRange 13).foldl a.choose none with
    | none =>
      rw [hr] at hc
      obtain ⟨i, hi⟩ := h
      rw [hc i (List.mem_finRange i)] at hi
      exact nomatch hi
    | some i =>
      rw [hr] at hc
      obtain ⟨-, hp, hbest⟩ := hc
      exact ⟨i, rfl, hp, fun h => absurd h h0, fun _ j hj => hbest j (List.mem_finRange j) hj⟩

theorem Alerts.first_none {a : Alerts} (h : ∀ i, a.presentable i = false) : a.first = none := by
  rw [Alerts.first_eq, if_neg (by simp [h])]
  have hc := a.chosen_foldl (List.finRange 13) (by decide)
  cases hr : (List.finRange 13).foldl a.choose none with
  | none => rfl
  | some i =>
    rw [hr] at hc
    obtain ⟨-, hp, -⟩ := hc
    rw [h i] at hp
    exact nomatch hp

@[simp] theorem Alerts.take_levels (a : Alerts) (i : Fin 13) (b : Bool) : (a.take i b).levels = a.levels := by
  unfold Alerts.take
  repeat' split
  all_goals rfl

theorem Alerts.take_mask (a : Alerts) (i : Fin 13) (b : Bool) : (a.take i b).mask = if i = 0 then a.mask else a.levels[i] := rfl

theorem Alerts.take_taken (a : Alerts) (i : Fin 13) (b : Bool) : (a.take i b).taken = if i = 2 then b else a.taken := by
  show (if i = Alert.sensorFault.num then _ else _ : Alerts).taken = _
  by_cases h : i = 2
  · subst h
    cases b <;> rfl
  · rw [if_neg (show ¬i = Alert.sensorFault.num from h), if_neg h]
    rfl

theorem Alerts.take_has (a : Alerts) (i : Fin 13) (b : Bool) (j : Fin 13) :
    (a.take i b).has j = (a.has j && (j != i || (i == 2 && b))) := by
  show (if i = Alert.sensorFault.num then _ else _ : Alerts).has j = _
  have hremoved (h : (i == 2 && b) = false) : (a.remove i).has j = (a.has j && (j != i || (i == 2 && b))) := by
    rw [Alerts.has_remove, h, Bool.or_false]
  by_cases h : i = 2
  · subst h
    cases b
    · exact hremoved rfl
    · exact (by simp : a.has j = (a.has j && (j != 2 || (2 == (2 : Fin 13) && true))))
  · have h2 : (i == 2) = false := by simpa using h
    rw [if_neg (show ¬i = Alert.sensorFault.num from h)]
    exact hremoved (by rw [h2]; rfl)

@[simp] theorem State.unmarked_sensing (s : State) (p : Port) : (s.unmarked p).sensing = s.sensing := s.setPort_sensing p _

/-- Settles O36: the fold over the sources finds the most urgent presentable one. -/
theorem takeAlertTakesTheMostUrgent : Obligations.TakeAlertTakesTheMostUrgent := by
  intro p idx data s ht
  refine ⟨fun hnone => ?_, fun hsome => ?_⟩
  · refine exec_answers (c := .takeAlert p 8 idx data) rfl (by decide) ht ?_
    rw [dealFrame_frameOf]
    show dealTakeAlert p 8 (s.unmarked p) = _
    rw [dealTakeAlert, if_neg (by decide), s.unmarked_alerts, Alerts.first_none hnone]
    rfl
  · obtain ⟨i, hfirst, hp, h0, hbest⟩ := Alerts.first_spec hsome
    refine ⟨i, (s.alerts p).take i s.sensing.fault, hp, h0, hbest, ?_, Alerts.take_levels _ _ _, Alerts.take_mask _ _ _,
      Alerts.take_has _ _ _, Alerts.take_taken _ _ _⟩
    refine exec_answers (c := .takeAlert p 8 idx data) rfl (by decide) ht ?_
    rw [dealFrame_frameOf]
    show dealTakeAlert p 8 (s.unmarked p) = _
    rw [dealTakeAlert, if_neg (by decide), s.unmarked_alerts, hfirst, s.unmarked_sensing, ← State.unmarked_setAlerts]
    rfl

/-! ### TUMBLE_ACK (R153) -/

@[simp] theorem State.unmarked_sched (s : State) (p : Port) : (s.unmarked p).sched = s.sched := s.setPort_sched p _

/-- Settles O48: the state, and the port, decide. -/
theorem tumbleAckStartsThePulse : Obligations.TumbleAckStartsThePulse := by
  intro idx data s
  have hdeal (p : Port) (t : State) : dealFrame p (frameOf 12 7 idx data) t = dealTumbleAck p 7 t := by
    rw [dealFrame_frameOf]
    rfl
  refine ⟨fun ht hs => ?_, fun ht hs => ?_, fun ht => ?_⟩
  · refine exec_answers (c := .tumbleAck .drive 7 idx data) (t := serve (acknowledge s)) rfl (by decide) ht ?_
    rw [hdeal, ← (serve_blind.comp acknowledge_blind).unmarked, ← s.unmarked_sched .drive]
    exact (if_neg (by decide)).trans ((if_neg (by decide)).trans (if_neg (not_not.mpr hs)))
  · refine exec_answers (c := .tumbleAck .drive 7 idx data) rfl (by decide) ht ?_
    rw [hdeal]
    exact (if_neg (by decide)).trans ((if_neg (by decide)).trans (if_pos hs))
  · refine exec_answers (c := .tumbleAck .panel 7 idx data) rfl (by decide) ht ?_
    rw [hdeal]
    exact (if_neg (by decide)).trans (if_pos (by decide))

end Sys2Proof.Machine
end

section
/-! PROOFS. WRITEs of settings (spec/12_settings_store.md section 12.2; O32) and the end of a settings write (O33). -/

set_option Elab.async false

namespace Sys2Proof.Machine

/-! ### Values held to their range (R184 checks 4 and 5) -/

/-- A range of numbers, not empty, or an enumeration. -/
def Range.plain : Range → Bool
  | .enum _ => true
  | .num lo hi => lo ≤ hi
  | .temp => false

theorem profileRanges_plain : ∀ f : Fin 18, profileRanges[f].plain = true := by decide

theorem configRanges_plain : ∀ i : Fin 8, configRanges[i].plain = true := by decide

theorem controlRanges_plain : ∀ f : Fin 6, controlRanges[f].plain = true := by decide

theorem itemRange_plain {it : Item} (h : ∀ i, it ≠ .temp i) : (itemRange it).plain = true := by
  cases it with
  | profile prog f => exact profileRanges_plain f
  | temp i => exact absurd rfl (h i)
  | config i => exact configRanges_plain i
  | tallyCtl t f => exact controlRanges_plain f

/-- The value that a plain range holds a word to. -/
def Range.hold (r : Range) (n : Nat) : Nat :=
  match r with
  | .num lo hi => max lo (min hi n)
  | _ => n

theorem fitValue_num {lo hi : Nat} {w : Word} (h : lo ≤ hi) : fitValue (.num lo hi) w =
    some (if max lo (min hi w.toNat) = w.toNat then .ok else .clamped, BitVec.ofNat 16 (max lo (min hi w.toNat))) := by
  unfold fitValue wordOf
  dsimp only
  by_cases hlo : w.toNat < lo
  · rw [if_pos hlo, if_neg (by omega), show max lo (min hi w.toNat) = lo by omega]
  · rw [if_neg hlo]
    by_cases hhi : hi < w.toNat
    · rw [if_pos hhi, if_neg (by omega), show max lo (min hi w.toNat) = hi by omega]
    · have hmid : max lo (min hi w.toNat) = w.toNat := by omega
      rw [if_neg hhi, if_pos hmid, hmid, BitVec.ofNat_toNat, BitVec.setWidth_eq]

theorem fitValue_plain {r : Range} {w : Word} (hr : r.plain = true) (he : ∀ m, r = .enum m → w.toNat ≤ m) :
    fitValue r w = some (if r.hold w.toNat = w.toNat then .ok else .clamped, BitVec.ofNat 16 (r.hold w.toNat)) := by
  cases r with
  | enum m =>
    show fitValue (.enum m) w = some (if w.toNat = w.toNat then .ok else .clamped, BitVec.ofNat 16 w.toNat)
    rw [if_pos rfl, BitVec.ofNat_toNat, BitVec.setWidth_eq]
    exact if_pos (he m rfl)
  | num lo hi => exact fitValue_num (of_decide_eq_true hr)
  | temp => exact nomatch hr

theorem fitValue_enum_above {m : Nat} {w : Word} (h : m < w.toNat) : fitValue (.enum m) w = none := if_neg (by omega)

/-- A code or a temperature of the table, held to its range. -/
def heldPoint (i : Fin 18) (w : Word) : Word :=
  if i.val % 2 = 0 then (if w.toNat ≤ 1023 then w else 1023)
  else if w.toInt < -20 then BitVec.ofInt 16 (-20) else if 150 < w.toInt then 150 else w

theorem fitValue_point (i : Fin 18) (w : Word) :
    fitValue (itemRange (.temp i)) w = some (if heldPoint i w = w then .ok else .clamped, heldPoint i w) := by
  unfold itemRange heldPoint
  by_cases heven : i.val % 2 = 0
  · simp only [heven, beq_self_eq_true, if_true, fitValue, Nat.not_lt_zero, if_false]
    by_cases h : w.toNat ≤ 1023
    · rw [if_neg (by omega), if_pos h, if_pos rfl]
    · have hne : (1023 : Word) ≠ w := by
        rintro rfl
        exact h (by decide)
      rw [if_pos (by omega), if_neg h, if_neg hne]
      rfl
  · simp only [heven, beq_iff_eq, if_false, fitValue]
    by_cases hlo : w.toInt < -20
    · have hne : BitVec.ofInt 16 (-20) ≠ w := by
        rintro rfl
        exact absurd hlo (by decide)
      rw [if_pos hlo, if_pos hlo, if_neg hne]
      rfl
    · rw [if_neg hlo, if_neg hlo]
      by_cases hhi : 150 < w.toInt
      · have hne : (150 : Word) ≠ w := by
          rintro rfl
          exact absurd hhi (by decide)
        rw [if_pos hhi, if_pos hhi, if_neg hne]
      · rw [if_neg hhi, if_neg hhi, if_pos rfl]

/-! ### The table as it will stand (R184 check 6) -/

/-- A request's effect on the settings where it is a TEMP_TABLE write of the port. -/
def pendingPoint (q : Port) (st : Settings) (r : Request) : Settings :=
  match r with
  | .settings p' (.temp i) w => if p' == q then st.put (.temp i) w else st
  | _ => st

theorem pendingPoint_other {q : Port} {st : Settings} {r : Request} (h : r.isSettings q = false) : pendingPoint q st r = st := by
  unfold pendingPoint
  split
  · exact if_neg (Bool.eq_false_iff.mp h)
  · rfl

theorem foldl_pendingPoint (q : Port) (l : List Request) (st : Settings) :
    l.foldl (pendingPoint q) st = (l.filter (Request.isSettings q)).foldl (pendingPoint q) st := by
  induction l generalizing st with
  | nil => rfl
  | cons r l ih =>
    cases h : r.isSettings q with
    | true => rw [List.filter_cons_of_pos h, List.foldl_cons, List.foldl_cons, ih]
    | false => rw [List.filter_cons_of_neg (Bool.eq_false_iff.mp h), List.foldl_cons, pendingPoint_other h, ih]

/-- The work in hand, as a request. -/
def pendingWork (q : Port) (st : Settings) (w : Work) : Settings :=
  match w with
  | .settings p' (.temp i) w => if p' == q then st.put (.temp i) w else st
  | _ => st

theorem pendingWork_other {q : Port} {st : Settings} {w : Work} (h : w.isSettings q = false) : pendingWork q st w = st := by
  unfold pendingWork
  split
  · exact if_neg (Bool.eq_false_iff.mp h)
  · rfl

theorem tableWithPending_eq (s : State) (q : Port) :
    s.tableWithPending q = pendingWork q (s.engine.queue.foldl (pendingPoint q) s.settings) s.engine.work := by
  unfold State.tableWithPending pendingWork
  rfl

theorem settingsPending_false {s : State} {q : Port} (h : s.settingsPending q = false) :
    s.engine.queue.filter (Request.isSettings q) = [] ∧ s.engine.work.isSettings q = false := by
  obtain ⟨hq, hw⟩ := Bool.or_eq_false_iff.mp h
  exact ⟨List.filter_eq_nil_iff.mpr fun r hr => by simpa using List.any_eq_false.mp hq r hr, hw⟩

theorem tableWithPending_temp {s : State} {q : Port} {t : Vector Word 18} (h : tableStands q s t) :
    (s.tableWithPending q).temp = t := by
  rw [tableWithPending_eq, foldl_pendingPoint]
  rcases h with ⟨hnone, rfl⟩ | ⟨it, w, ⟨hq, hw⟩ | ⟨hq, hw⟩, rfl⟩
  · obtain ⟨hq, hw⟩ := settingsPending_false hnone
    rw [hq, pendingWork_other hw]
    rfl
  · rw [hq, pendingWork_other hw, List.foldl_cons, List.foldl_nil]
    cases it <;> simp [pendingPoint, Settings.put]
  · rw [hq, hw, List.foldl_nil]
    cases it <;> simp [pendingWork, Settings.put]

theorem otherPort_of_ne {p q : Port} (h : q ≠ p) : otherPort p = q :=
  match p, q, h with
  | .panel, .drive, _ => rfl
  | .drive, .panel, _ => rfl
  | .panel, .panel, h => absurd rfl h
  | .drive, .drive, h => absurd rfl h

theorem codeAt_succ (t : Vector Word 18) (k : Fin 8) : codeAt t k.succ = min 1023 (t[k.val * 2 + 2]).toNat := by
  have h : k.succ.val * 2 = k.val * 2 + 2 := by rw [Fin.val_succ, Nat.succ_mul]
  simp only [codeAt, h]

/-- The check of the table in terms of its codes. -/
theorem tableFits_iff {p q : Port} {i : Fin 18} {v : Word} {s : State} {st : Vector Word 18} (hq : q ≠ p)
    (hst : tableStands q s st) : tableFits p (.temp i) v s = true ↔
      ∀ k : Fin 8, min 1023 ((st.set i v)[k.val * 2]).toNat < min 1023 ((st.set i v)[k.val * 2 + 2]).toNat := by
  have htable : ((s.tableWithPending (otherPort p)).put (.temp i) v).temp = st.set i v := by
    rw [otherPort_of_ne hq, ← tableWithPending_temp hst]
    rfl
  show tableUsable _ = true ↔ _
  rw [htable, tableUsable_iff]
  exact forall_congr' fun k => by rw [codeAt_succ]; exact Iff.rfl

theorem tableFits_other {p : Port} {it : Item} {v : Word} {s : State} (h : ∀ i, it ≠ .temp i) : tableFits p it v s = true := by
  unfold tableFits
  split
  · exact absurd rfl (h _)
  · rfl

/-! ### The checks of a settings write -/

section Setting

variable {p : Port} {it : Item} {data w : Word} {s : State} {r : Result}

theorem refusedSetting_built (hb : s.built = true) : refusedSetting it r s = ⟨s, r, s.shownSetting it⟩ := by
  unfold refusedSetting
  split
  · exact if_pos hb
  · rfl

theorem dealSetting_locked (ho : s.settingsOpen = false) : dealSetting p it data s = refusedSetting it .locked s := if_pos ho

theorem dealSetting_busy (ho : s.settingsOpen = true) (hp : s.settingsPending p = true) :
    dealSetting p it data s = refusedSetting it .busy s := by
  simp [dealSetting, ho, hp]

theorem dealSetting_badValue (ho : s.settingsOpen = true) (hp : s.settingsPending p = false)
    (hv : fitValue (itemRange it) data = none) : dealSetting p it data s = refusedSetting it .badValue s := by
  simp [dealSetting, ho, hp, hv]

theorem dealSetting_fits (ho : s.settingsOpen = true) (hp : s.settingsPending p = false)
    (hv : fitValue (itemRange it) data = some (r, w)) (hf : tableFits p it w s = true) :
    dealSetting p it data s = ⟨serve (requestSettings p it w s), r, s.shownSetting it⟩ := by
  simp [dealSetting, ho, hp, hv, hf]

theorem dealSetting_misfits (ho : s.settingsOpen = true) (hp : s.settingsPending p = false)
    (hv : fitValue (itemRange it) data = some (r, w)) (hf : tableFits p it w s = false) :
    dealSetting p it data s = refusedSetting it .badValue s := by
  simp [dealSetting, ho, hp, hv, hf]

@[simp] theorem State.unmarked_settingsOpen (s : State) (q : Port) : (s.unmarked q).settingsOpen = s.settingsOpen := by
  cases q <;> rfl

@[simp] theorem State.unmarked_settingsPending (s : State) (q : Port) :
    (s.unmarked q).settingsPending p = s.settingsPending p := by
  cases q <;> rfl

@[simp] theorem State.unmarked_shownSetting (s : State) (q : Port) : (s.unmarked q).shownSetting it = s.shownSetting it := by
  cases q <;> rfl

@[simp] theorem unmarked_tableFits (s : State) (q : Port) : tableFits p it w (s.unmarked q) = tableFits p it w s := by
  cases q <;> rfl

end Setting

/-- A WRITE whose index names a setting. -/
structure SettingWrite (c : Instr) (p : Port) (cls : Code) (idx : Index) (data : Word) (it : Item) (s : State) : Prop where
  frame : c.frame = some (p, frameOf 2 cls idx data)
  queued : ∀ r : Result, r.takes = true → ackOf 2 cls r = .queued
  deals : dealWrite p cls idx data (s.unmarked p) = dealSetting p it data (s.unmarked p)

namespace SettingWrite

variable {c : Instr} {p : Port} {cls : Code} {idx : Index} {data w : Word} {it : Item} {s : State}

theorem refused (h : SettingWrite c p cls idx data it s) (ht : takesFrames p s) (hb : s.built = true) {r : Result}
    (hr : r.takes = false) (hd : dealSetting p it data (s.unmarked p) = refusedSetting it r (s.unmarked p)) :
    exec c s = .next (s.withAnswer p (answerOf 2 r idx (s.shownSetting it) .refused)) := by
  have hack : ackOf 2 cls r = .refused := by rw [ackOf, hr]; rfl
  rw [← hack]
  refine exec_write h.frame ht ?_
  rw [h.deals, hd, refusedSetting_built ((s.unmarked_built p).trans hb), s.unmarked_shownSetting]

theorem taken (h : SettingWrite c p cls idx data it s) (ht : takesFrames p s) {r : Result} (ho : s.settingsOpen = true)
    (hp : s.settingsPending p = false) (hv : fitValue (itemRange it) data = some (r, w)) (hf : tableFits p it w s = true) :
    exec c s = .next ((serve (requestSettings p it w s)).withAnswer p (answerOf 2 r idx (s.shownSetting it) .queued)) := by
  rw [← h.queued r (fitValue_takes hv)]
  refine exec_write h.frame ht ?_
  rw [h.deals, dealSetting_fits ((s.unmarked_settingsOpen p).trans ho) ((s.unmarked_settingsPending p).trans hp) hv
    ((unmarked_tableFits s p).trans hf), (serve_blind.comp (requestSettings_blind p it w)).unmarked, s.unmarked_shownSetting]

end SettingWrite

theorem ctlField_at {t f : Fin 6} {i : Nat} (h : i = t.val * 8 + f.val) : ctlField i = some (t, f) := by
  subst h
  exact ctlField_row t f

theorem settingsItem_profile {prog : Fin 16} (f : Fin 18) : settingsItem 9 prog f.val = some (.profile prog f) := dif_pos f.isLt

theorem settingsItem_temp {prog : Fin 16} (f : Fin 18) : settingsItem 10 prog f.val = some (.temp f) := dif_pos f.isLt

theorem settingsItem_configAt {prog : Fin 16} (f : Fin 8) : settingsItem 11 prog f.val = some (.config f) := dif_pos f.isLt

/-- Settles O32: the checks in their order; the three further facts are about the value's range and the table. -/
theorem settingsWrites : Obligations.SettingsWrites := by
  intro p idx data s ht hb c cls it old hc
  have hwrite : SettingWrite c p cls idx data it s ∧ old = s.shownSetting it := by
    rcases hc with ⟨t, f, rfl, rfl, hi, rfl, rfl⟩ | ⟨f, rfl, rfl, hi, rfl, rfl⟩ | ⟨i, rfl, rfl, hi, rfl, rfl⟩ |
      ⟨i, rfl, rfl, hi, rfl, rfl⟩
    · refine ⟨⟨rfl, fun r hr => by rw [ackOf, hr]; rfl, ?_⟩, rfl⟩
      show dealTallyCtl p idx.toNat data _ = _
      rw [dealTallyCtl, ctlField_at hi]
      rfl
    · refine ⟨⟨rfl, fun r hr => by rw [ackOf, hr]; rfl, ?_⟩, rfl⟩
      show dealProfile p idx.toNat data _ = _
      rw [dealProfile, hi, settingsItem_profile, s.unmarked_lpr]
      rfl
    · refine ⟨⟨rfl, fun r hr => by rw [ackOf, hr]; rfl, ?_⟩, rfl⟩
      show dealTempTable p idx.toNat data _ = _
      rw [dealTempTable, hi, settingsItem_temp]
      rfl
    · refine ⟨⟨rfl, fun r hr => by rw [ackOf, hr]; rfl, ?_⟩, rfl⟩
      show dealConfig p idx.toNat data _ = _
      rw [dealConfig, hi, settingsItem_configAt]
      rfl
  obtain ⟨hw, rfl⟩ := hwrite
  have hopen {b : Bool} (h : s.settingsOpen = b) : (s.unmarked p).settingsOpen = b := (s.unmarked_settingsOpen p).trans h
  have hpend {b : Bool} (h : s.settingsPending p = b) : (s.unmarked p).settingsPending p = b :=
    (s.unmarked_settingsPending p).trans h
  refine ⟨fun ho => hw.refused ht hb rfl (dealSetting_locked (hopen ho)),
    fun ho hp => hw.refused ht hb rfl (dealSetting_busy (hopen ho) (hpend hp)), fun ho hp m hm hlt => ?_,
    fun ho hp hit hle => ?_, fun ho hp i v hi hv => ?_⟩
  · exact hw.refused ht hb rfl (dealSetting_badValue (hopen ho) (hpend hp) (hm ▸ fitValue_enum_above hlt))
  · exact ⟨(itemRange it).hold data.toNat, rfl,
      hw.taken ht ho hp (fitValue_plain (itemRange_plain hit) hle) (tableFits_other hit)⟩
  · subst hi
    have hfit : fitValue (itemRange (.temp i)) data = some (if v = data then .ok else .clamped, v) := by
      rw [hv]
      exact fitValue_point i data
    exact ⟨fun hf => hw.taken ht ho hp hfit hf,
      fun hf => hw.refused ht hb rfl
        (dealSetting_misfits (hopen ho) (hpend hp) hfit ((unmarked_tableFits s p).trans hf)),
      fun q st hq hst => tableFits_iff hq hst⟩

/-! ### The end of a settings write (O33) -/

/-- What a store reads back after a write of one item: that item's word, and every other's as before. -/
theorem Settings.get_put_same (st : Settings) (it : Item) (w : Word) : (st.put it w).get it = w := by
  cases it <;> simp [Settings.put, Settings.get]

theorem Settings.get_put_other (st : Settings) {it other : Item} (w : Word) (h : other ≠ it) :
    (st.put it w).get other = st.get other := by
  cases it with
  | profile p f =>
    cases other with
    | profile p' f' =>
      show (st.profiles.set p (st.profiles[p].set f w))[p'][f'] = st.profiles[p'][f']
      by_cases hp : p = p'
      · subst hp
        have hf : f ≠ f' := fun hf => h (hf ▸ rfl)
        simp [Fin.val_ne_of_ne hf]
      · simp [Fin.val_ne_of_ne hp]
    | temp i => rfl
    | config i => rfl
    | tallyCtl t f => rfl
  | temp i =>
    cases other with
    | temp i' =>
      have hi : i ≠ i' := fun hi => h (hi ▸ rfl)
      show (st.temp.set i w)[i'] = st.temp[i']
      simp [Fin.val_ne_of_ne hi]
    | profile p f => rfl
    | config i => rfl
    | tallyCtl t f => rfl
  | config i =>
    cases other with
    | config i' =>
      have hi : i ≠ i' := fun hi => h (hi ▸ rfl)
      show (st.config.set i w)[i'] = st.config[i']
      simp [Fin.val_ne_of_ne hi]
    | profile p f => rfl
    | temp i => rfl
    | tallyCtl t f => rfl
  | tallyCtl t f =>
    cases other with
    | tallyCtl t' f' =>
      show (st.controls.set t (st.controls[t].set f w))[t'][f'] = st.controls[t'][f']
      by_cases ht : t = t'
      · subst ht
        have hf : f ≠ f' := fun hf => h (hf ▸ rfl)
        simp [Fin.val_ne_of_ne hf]
      · simp [Fin.val_ne_of_ne ht]
    | profile p f => rfl
    | temp i => rfl
    | config i => rfl

/-- The tallies after a stored item was written: a TALLY_CTL field moves its working control. -/
def talliesAfterWrite (it : Item) (w : Word) (ts : Vector Tally 6) : Vector Tally 6 :=
  match it with
  | .tallyCtl t f => ts.set t { ts[t] with ctl := ts[t].ctl.set f w, edgeMem := false }
  | _ => ts

theorem talliesAfterWrite_get (it : Item) (w : Word) (ts : Vector Tally 6) (i : Fin 6) : (talliesAfterWrite it w ts)[i] =
    match it with
    | .tallyCtl t f => if i = t then { ts[t] with ctl := ts[t].ctl.set f w, edgeMem := false } else ts[i]
    | _ => ts[i] := by
  cases it with
  | tallyCtl t f =>
    show (ts.set t { ts[t] with ctl := ts[t].ctl.set f w, edgeMem := false })[i] = _
    by_cases h : i = t
    · subst h
      simp
    · simp [h, Fin.val_ne_of_ne (Ne.symm h)]
  | profile p f => rfl
  | temp j => rfl
  | config j => rfl

theorem settingsEnds_eq (p : Port) (it : Item) (w readBack : Word) (s : State) : settingsEnds p it w readBack s =
    ({ s with
      settings := s.settings.put it readBack, tallies := talliesAfterWrite it readBack s.tallies
      engine := { s.engine with work := .idle }, storeFault := s.storeFault || readBack != w } : State).setAlerts p
        ((s.alerts p).add .settingsWritten) := by
  unfold settingsEnds
  cases it <;> cases p <;> rfl

/-- Settles O33: the end of the write as a record, with the array's law. -/
theorem settingsWriteCompletes : Obligations.SettingsWriteCompletes := by
  intro p it w readBack s hrun hwork
  refine ⟨talliesAfterWrite it readBack s.tallies, ?_, talliesAfterWrite_get it readBack s.tallies, Settings.get_put_same _ _ _,
    fun other h => Settings.get_put_other _ _ h⟩
  have hexec : exec (.settingsWriteComplete readBack) s = .next (settingsWork readBack s) := congrArg _ (if_pos hrun)
  rw [hexec, settingsWork, hwork]
  exact congrArg (fun t => Host.Outcome.next (serve t)) (settingsEnds_eq p it w readBack s)

end Sys2Proof.Machine
end

section
/-! PROOFS. What one occurrence does (spec/02_progress_tallies.md sections 2.2 to 2.4; O31). -/

set_option Elab.async false

namespace Sys2Proof.Machine

/-! ### One tally -/

section Tally

variable {t : Tally} {i : Fin 6} {src : Source} {inc : Nat}

theorem Tally.plus_fst (t : Tally) (n : Nat) : (t.plus n).1 =
    if t.value + n > 16777215 then { t with value := (t.value + n) % 16777216, overflow := true }
    else { t with value := t.value + n } := by
  unfold Tally.plus
  split <;> rfl

theorem Tally.plus_snd (t : Tally) (n : Nat) : (t.plus n).2 = decide (t.value + n > 16777215) := by
  unfold Tally.plus
  split <;> simp_all

/-- The condition of a threshold, in either sense. -/
theorem Tally.condition_eq (t : Tally) (i : Fin 6) (inc : Nat) : t.condition i inc =
    if controlUse i 2 t.ctl = 1 then decide (inc < controlUse i 1 t.ctl) else decide (controlUse i 1 t.ctl ≤ inc) := by
  unfold Tally.condition
  by_cases h : controlUse i 2 t.ctl = 1
  · rw [if_pos h, h, beq_self_eq_true, Bool.bne_true, ← decide_not]
    exact decide_eq_decide.mpr Nat.not_le
  · rw [if_neg h, beq_eq_false_iff_ne.mpr h, Bool.bne_false]

/-- A tally with a threshold counts by one: its condition holds, and has not held before where only its edges count. -/
def Tally.counts (t : Tally) (i : Fin 6) (inc : Nat) : Bool :=
  t.condition i inc && !(controlUse i 3 t.ctl == 1 && t.edgeMem)

theorem Tally.count_plain (h : controlUse i 1 t.ctl = 0) : t.count i inc = t.plus inc := if_pos h

theorem Tally.count_threshold (h : controlUse i 1 t.ctl ≠ 0) : t.count i inc =
    if t.counts i inc then ({ t with edgeMem := t.condition i inc } : Tally).plus 1
    else ({ t with edgeMem := t.condition i inc }, false) := if_neg h

theorem Tally.deliver_mine (hs : t.source i = src) (he : controlUse i 5 t.ctl = 1) : t.deliver i src inc = t.count i inc :=
  if_pos ⟨hs, he⟩

theorem Tally.deliver_other (h : t.source i ≠ src ∨ controlUse i 5 t.ctl ≠ 1) : t.deliver i src inc = (t, false) :=
  if_neg fun hx => h.elim (· hx.1) (· hx.2)

theorem Tally.counts_iff : t.counts i inc = true ↔
    t.condition i inc = true ∧ ¬(controlUse i 3 t.ctl = 1 ∧ t.edgeMem = true) := by
  rw [Tally.counts, Bool.and_eq_true, Bool.not_eq_true', ← Bool.not_eq_true, Bool.and_eq_true, beq_iff_eq]

/-- A tally that counts by a threshold: its edge memory, its flag and its value. -/
theorem Tally.count_threshold_fields (h : controlUse i 1 t.ctl ≠ 0) :
    (t.count i inc).1.edgeMem = t.condition i inc ∧ (t.count i inc).1.ctl = t.ctl
    ∧ (t.count i inc).1.overflow = (t.overflow || (t.counts i inc && decide (t.value + 1 > 16777215)))
    ∧ (t.count i inc).1.value = if t.counts i inc = true then
        (if t.value + 1 > 16777215 then (t.value + 1) % 16777216 else t.value + 1) else t.value := by
  rw [Tally.count_threshold h]
  by_cases hc : t.counts i inc = true
  · rw [if_pos hc, if_pos hc, hc, Tally.plus_fst]
    by_cases hw : t.value + 1 > 16777215
    · simp [hw]
    · simp [hw]
  · rw [if_neg hc, if_neg hc, Bool.eq_false_iff.mpr hc, Bool.false_and, Bool.or_false]
    exact ⟨rfl, rfl, rfl, rfl⟩

/-- A tally wraps at an occurrence. -/
theorem Tally.deliver_wraps_iff : (t.deliver i src inc).2 = true ↔ t.source i = src ∧ controlUse i 5 t.ctl = 1
    ∧ ((controlUse i 1 t.ctl = 0 ∧ t.value + inc > 16777215)
      ∨ (controlUse i 1 t.ctl ≠ 0 ∧ t.value + 1 > 16777215 ∧ t.counts i inc = true)) := by
  by_cases hmine : t.source i = src ∧ controlUse i 5 t.ctl = 1
  · obtain ⟨hs, he⟩ := hmine
    rw [Tally.deliver_mine hs he]
    by_cases h0 : controlUse i 1 t.ctl = 0
    · rw [Tally.count_plain h0, Tally.plus_snd]
      simp [hs, he, h0]
    · rw [Tally.count_threshold h0]
      by_cases hc : t.counts i inc = true
      · rw [if_pos hc, Tally.plus_snd]
        simp [hs, he, h0, hc]
      · rw [if_neg hc]
        simp [h0, hc]
  · rw [Tally.deliver_other (not_and_or.mp hmine)]
    exact ⟨(fun h => nomatch h), fun h => absurd ⟨h.1, h.2.1⟩ hmine⟩

end Tally

/-! ### All tallies -/

section Deliver

variable {src : Source} {inc : Nat} {s : State}

theorem deliverAll_get (ts : Vector Tally 6) (i : Fin 6) : (deliverAll src inc ts)[i] = (ts[i].deliver i src inc).1 := by
  simp [deliverAll]

theorem deliver_frozen (h : s.freeze.any = true) : deliver src inc s = s := if_pos h

theorem notifyWrap_tallies (s : State) : (notifyWrap s).tallies = s.tallies := by
  unfold notifyWrap
  split
  · obtain ⟨q, -, h⟩ := request_requested (raiseBoth .tallyTarget { s with freeze.notify := true }) .tally
    rw [h]
    rfl
  · rfl

theorem deliver_tallies (h : s.freeze.any = false) : (deliver src inc s).tallies = deliverAll src inc s.tallies := by
  unfold deliver
  rw [if_neg (Bool.eq_false_iff.mp h)]
  split
  · exact notifyWrap_tallies _
  · rfl

theorem deliver_tally (h : s.freeze.any = false) (i : Fin 6) :
    (deliver src inc s).tallies[i] = (s.tallies[i].deliver i src inc).1 := by
  rw [deliver_tallies h, deliverAll_get]

theorem deliver_quiet (h : s.freeze.any = false) (hw : notifyingWrap src inc s.tallies = false) :
    deliver src inc s = { s with tallies := deliverAll src inc s.tallies } := by
  simp [deliver, h, hw]

theorem deliver_notifies (h : s.freeze.any = false) (hw : notifyingWrap src inc s.tallies = true) :
    deliver src inc s = notifyWrap { s with tallies := deliverAll src inc s.tallies } := by
  simp [deliver, h, hw]

/-- The three effects of a notifying wrap. -/
theorem notifyWrap_eq (s : State) : ∃ q, notifyWrap s = { s with
      freeze := { s.freeze with notify := true }
      panelAlerts := s.panelAlerts.add .tallyTarget, driveAlerts := s.driveAlerts.add .tallyTarget
      engine := { s.engine with queue := q } }
    ∧ (s.settings.cfg 0 = 1 → requested .tally s.snapshot s.engine.queue q) ∧ (s.settings.cfg 0 ≠ 1 → q = s.engine.queue) := by
  unfold notifyWrap
  by_cases hc : s.settings.cfg 0 = 1
  · obtain ⟨q, hq, h⟩ := request_requested (raiseBoth .tallyTarget { s with freeze.notify := true }) .tally
    exact ⟨q, (if_pos hc).trans h, fun _ => hq, fun hne => absurd hc hne⟩
  · exact ⟨s.engine.queue, if_neg hc, fun h => absurd h hc, fun _ => rfl⟩

theorem notifyingWrap_iff (ts : Vector Tally 6) : notifyingWrap src inc ts = true ↔
    ∃ i : Fin 6, (ts[i].deliver i src inc).2 = true ∧ controlUse i 4 ts[i].ctl = 1 := by
  simp [notifyingWrap]

theorem deliver_tally_other {i : Fin 6} (h : s.tallies[i].source i ≠ src) : (deliver src inc s).tallies[i] = s.tallies[i] := by
  cases hf : s.freeze.any with
  | true => rw [deliver_frozen hf]
  | false => rw [deliver_tally hf, Tally.deliver_other (.inl h)]

/-- An occurrence moves the tallies, NOTIFY, the pending sources and the queue. The tallies of other sources stand, no source leaves
the drive's pending set, and the queue keeps what is not of TALLY. -/
theorem deliver_eq (src : Source) (inc : Nat) (s : State) : ∃ ts n pa da q, deliver src inc s = { s with
      tallies := ts, freeze := { s.freeze with notify := n }, panelAlerts := pa, driveAlerts := da
      engine := { s.engine with queue := q } }
    ∧ (∀ i : Fin 6, s.tallies[i].source i ≠ src → ts[i] = s.tallies[i])
    ∧ (∀ i : Fin 13, s.driveAlerts.has i = true → da.has i = true)
    ∧ q.filter (fun r => !r.isOrigin .tally) = s.engine.queue.filter (fun r => !r.isOrigin .tally) := by
  have hts : ∀ i : Fin 6, s.tallies[i].source i ≠ src → (deliver src inc s).tallies[i] = s.tallies[i] :=
    fun i => deliver_tally_other
  cases hf : s.freeze.any with
  | true => exact ⟨_, _, _, _, _, deliver_frozen hf, fun _ _ => rfl, fun _ h => h, rfl⟩
  | false =>
    rw [deliver_tallies hf] at hts
    cases hw : notifyingWrap src inc s.tallies with
    | false => exact ⟨_, _, _, _, _, deliver_quiet hf hw, hts, fun _ h => h, rfl⟩
    | true =>
      obtain ⟨q, hq, h1, h0⟩ := notifyWrap_eq { s with tallies := deliverAll src inc s.tallies }
      refine ⟨_, _, _, _, q, (deliver_notifies hf hw).trans hq, hts, fun i h => by rw [Alerts.has_add, h, Bool.true_or], ?_⟩
      by_cases hc : s.settings.cfg 0 = 1
      · exact (h1 hc).2
      · rw [h0 hc]

end Deliver

/-- Settles O31: one tally at a time, then the part where one with notify wraps. -/
theorem occurrencesAreCounted : Obligations.OccurrencesAreCounted := by
  intro src inc s
  refine ⟨deliver_frozen, fun hf i => ⟨fun h => ?_, fun hs he h0 => ?_, fun hs he h0 c hc => ?_⟩, fun hf wraps hwraps => ?_⟩
  · rw [deliver_tally hf, Tally.deliver_other h]
  · rw [deliver_tally hf, Tally.deliver_mine hs he, Tally.count_plain h0, Tally.plus_fst]
  · obtain ⟨hedge, hctl, hover, hval⟩ := Tally.count_threshold_fields (inc := inc) h0
    have hcond : s.tallies[i].condition i inc = c := (Tally.condition_eq _ _ _).trans hc.symm
    rw [deliver_tally hf, Tally.deliver_mine hs he]
    refine ⟨hedge.trans hcond, hctl, hover.trans ?_, hval.trans ?_⟩
    · rw [Tally.counts, hcond]
    · simp only [Tally.counts_iff, hcond]
  · have hw : notifyingWrap src inc s.tallies = true ↔ wraps := by
      rw [notifyingWrap_iff, hwraps]
      refine exists_congr fun i => ?_
      have hcond : (if controlUse i 2 s.tallies[i].ctl = 1 then inc < controlUse i 1 s.tallies[i].ctl
          else controlUse i 1 s.tallies[i].ctl ≤ inc) ↔ s.tallies[i].condition i inc = true := by
        rw [Tally.condition_eq]
        split <;> simp
      rw [Tally.deliver_wraps_iff, Tally.counts_iff, hcond]
      exact ⟨fun ⟨⟨hs, he, hv⟩, hn⟩ => ⟨hs, he, hn, hv⟩, fun ⟨hs, he, hn, hv⟩ => ⟨⟨hs, he, hv⟩, hn⟩⟩
    refine ⟨fun hn => ⟨_, deliver_quiet hf (Bool.eq_false_iff.mpr (mt hw.mp hn))⟩, fun hy => ?_⟩
    obtain ⟨q, hq, h1, h0⟩ := notifyWrap_eq { s with tallies := deliverAll src inc s.tallies }
    have hd := (deliver_notifies hf (hw.mpr hy)).trans hq
    refine ⟨_, q, hd, fun hc => ?_, fun hc => h0 (hc ▸ by decide)⟩
    rw [hd]
    exact h1 hc

end Sys2Proof.Machine
end

section
/-! PROOFS. What the acts of the record, the tallies and the scheduler leave alone, and what the close of a hand-over does. -/

set_option Elab.async false

namespace Sys2Proof.Machine

/-! ### Acts of the record, the tallies and the scheduler -/

/-- `t` differs from `s` at most in the phase, its clock and the run request, the tallies, the scheduler, NOTIFY, the pending alerts
and the waiting requests. -/
def Steady (s t : State) : Prop :=
  ∃ ph ck ms rr ts pr sc n pa da q, t = { s with
    lpr := { s.lpr with phase := ph, phaseClock := ck, partMs := ms, runReq := rr }
    tallies := ts, preloaded := pr, sched := sc, freeze := { s.freeze with notify := n }, panelAlerts := pa, driveAlerts := da
    engine := { s.engine with queue := q } }

namespace Steady

variable {s t u : State}

theorem refl (s : State) : Steady s s := ⟨_, _, _, _, _, _, _, _, _, _, _, rfl⟩

theorem trans (h : Steady s t) (k : Steady t u) : Steady s u := by
  obtain ⟨_, _, _, _, _, _, _, _, _, _, _, rfl⟩ := h
  obtain ⟨_, _, _, _, _, _, _, _, _, _, _, rfl⟩ := k
  exact ⟨_, _, _, _, _, _, _, _, _, _, _, rfl⟩

theorem ite {c : Prop} [Decidable c] {a b : State} (ha : Steady s a) (hb : Steady s b) : Steady s (if c then a else b) := by
  split <;> assumption

end Steady

section Acts

variable (s : State)

theorem raiseBoth_steady (x : Alert) : Steady s (raiseBoth x s) := ⟨_, _, _, _, _, _, _, _, _, _, _, rfl⟩

theorem raiseOn_steady (x : Alert) (p : Port) : Steady s (raiseOn x p s) := by
  cases p <;> exact ⟨_, _, _, _, _, _, _, _, _, _, _, rfl⟩

theorem request_steady (o : Origin) : Steady s (request o s) := by
  obtain ⟨q, -, h⟩ := request_requested s o
  exact ⟨_, _, _, _, _, _, _, _, _, _, _, h⟩

theorem requestPhase_steady : Steady s (requestPhase s) := Steady.ite (request_steady s _) (Steady.refl s)

theorem deliver_steady (src : Source) (inc : Nat) : Steady s (deliver src inc s) := by
  obtain ⟨_, _, _, _, _, h, -⟩ := deliver_eq src inc s
  exact ⟨_, _, _, _, _, _, _, _, _, _, _, h⟩

theorem changeToDone_steady (r : EndReason) : Steady s (changeToDone r s) := by
  obtain ⟨_, _, _, _, _, h, -⟩ := changeToDone_changed s r
  exact ⟨_, _, _, _, _, _, _, _, _, _, _, h⟩

theorem writeDone_steady (r : EndReason) : Steady s (writeDone r s) := Steady.ite (Steady.refl s) (changeToDone_steady s r)

theorem endSched_steady (r : EndReason) : Steady s (endSched r s) := ⟨_, _, _, _, _, _, _, _, _, _, _, rfl⟩

theorem endOwn_steady (r : EndReason) : Steady s (endOwn r s) :=
  ((endSched_steady s r).trans (writeDone_steady _ _)).trans (raiseBoth_steady _ _)

theorem endByChange_steady (r : EndReason) : Steady s (endByChange r s) :=
  Steady.ite ((endSched_steady s r).trans (raiseBoth_steady _ _)) (Steady.refl s)

theorem windowTest_steady : Steady s (windowTest s) := Steady.ite (endOwn_steady s _) (Steady.refl s)

theorem enterRest_steady (ms : Nat) : Steady s (enterRest ms s) :=
  Steady.trans (t := { s with sched.state := .resting, sched.remaining := ms }) ⟨_, _, _, _, _, _, _, _, _, _, _, rfl⟩
    (windowTest_steady _)

theorem enterDue_steady : Steady s (enterDue s) := ⟨_, _, _, _, _, _, _, _, _, _, _, rfl⟩

theorem enterRecovery_steady (n : Nat) : Steady s (enterRecovery n s) := ⟨_, _, _, _, _, _, _, _, _, _, _, rfl⟩

theorem putPhase_steady (ph : Phase) (n : Nat) : Steady s (putPhase ph n s) := ⟨_, _, _, _, _, _, _, _, _, _, _, rfl⟩

theorem freshStart_steady : Steady s (freshStart s) := by
  have h : Steady s (freshCopies s) := ⟨_, _, _, _, _, _, _, _, _, _, _, rfl⟩
  rw [freshStart_eq]
  exact Steady.ite (h.trans (endOwn_steady _ _)) (h.trans (enterRest_steady _ _))

theorem changePhase_steady (ph : Phase) : Steady s (changePhase ph s) := by
  have h : Steady s (if s.lpr.phase = .anticrease then endByChange .phase (putPhase ph 0 s) else putPhase ph 0 s) :=
    Steady.ite ((putPhase_steady s ph 0).trans (endByChange_steady _ _)) (putPhase_steady s ph 0)
  exact Steady.ite (changeToDone_steady s _)
    ((Steady.ite (h.trans (freshStart_steady _)) h).trans (requestPhase_steady _))

theorem planStart_steady (pl : Plan) : Steady s (planStart pl s) := by
  have h : Steady s (planCopies pl s) := ⟨_, _, _, _, _, _, _, _, _, _, _, rfl⟩
  rw [planStart_eq]
  exact Steady.ite (h.trans (enterRecovery_steady _ _)) (h.trans (enterRest_steady _ _))

theorem idleSched_steady : Steady s (idleSched s) := Steady.ite ⟨_, _, _, _, _, _, _, _, _, _, _, rfl⟩ (Steady.refl s)

theorem acknowledge_steady : Steady s (acknowledge s) :=
  Steady.trans (t := { s with
    sched.state := .tumbling, sched.remaining := s.sched.tumbleLen * 1000, sched.missed := 0,
    sched.nextDir := s.sched.pulseDir.opposite }) ⟨_, _, _, _, _, _, _, _, _, _, _, rfl⟩ (deliver_steady _ _ _)

theorem preload_steady (t : Fin 6) (n : Nat) : Steady s (preload t n s) := ⟨_, _, _, _, _, _, _, _, _, _, _, rfl⟩

theorem preloadTarget_steady (pl : Plan) : Steady s (preloadTarget pl s) := by
  unfold preloadTarget
  refine Steady.ite ?_ (Steady.refl s)
  split
  · exact preload_steady s _ _
  · exact Steady.refl s

theorem applyPhase_steady (pl : Plan) : Steady s (applyPhase pl s) :=
  Steady.ite (putPhase_steady s _ _) (Steady.ite (changeToDone_steady s _)
    (Steady.ite ((putPhase_steady s _ _).trans (endByChange_steady _ _)) (putPhase_steady s _ _)))

theorem applyRequest_steady (pl : Plan) (old : Phase) : Steady s (applyRequest pl old s) :=
  Steady.ite (Steady.refl s) (requestPhase_steady s)

end Acts

/-! ### The close of a hand-over -/

theorem mem_of_filter_eq {α : Type} {f : α → Bool} {q q' : List α} (h : q'.filter f = q.filter f) {r : α} (hr : r ∈ q)
    (hf : f r = true) : r ∈ q' := (List.mem_filter.mp (h ▸ List.mem_filter.mpr ⟨hr, hf⟩)).1

/-- What a close moves, and what it keeps of the tallies, the drive's alerts and the waiting requests. -/
theorem chainClosed_eq {v u : State} (h : chainClosed v u) : ∃ ts n pa da q, u = { v with
      tallies := ts, freeze := { v.freeze with ret := false, notify := n }, panelAlerts := pa, driveAlerts := da
      engine := { v.engine with queue := q }
      outage := { v.outage with chainOpen := false, fresh := false, keyFromScan := false }
      sensing := { v.sensing with burst := none }, seq := { v.seq with pace := 0, quiet := 0 }, kept := none
      handover := { v.handover with state := .closed } }
    ∧ (∀ i : Fin 6, v.tallies[i].source i ≠ .mainsDips → ts[i] = v.tallies[i])
    ∧ (∀ i : Fin 13, v.driveAlerts.has i = true → da.has i = true)
    ∧ Request.journal .resume u.snapshot ∈ q
    ∧ ∀ r ∈ v.engine.queue, r.isOrigin .resume = false → r.isOrigin .tally = false → r ∈ q := by
  obtain ⟨w, d, q, rfl, hd, ⟨hmem, hfilter⟩, rfl⟩ := h
  by_cases hdips : v.outage.openedBy = .loss ∧ v.outage.summary.duration ≤ 1
  · rw [if_pos hdips] at hd
    obtain ⟨ts, n, pa, da, q', hdel, hts, hda, hq'⟩ := deliver_eq .mainsDips 1 { v with
      freeze := { v.freeze with ret := false }
      outage := { v.outage with chainOpen := false, fresh := false, keyFromScan := false }
      sensing := { v.sensing with burst := none }, seq := { v.seq with pace := 0, quiet := 0 } }
    rw [hdel] at hd
    subst hd
    exact ⟨ts, n, pa, da, q, rfl, hts, hda, hmem, fun r hr hres htal =>
      mem_of_filter_eq hfilter (mem_of_filter_eq hq' hr (by rw [htal]; rfl)) (by rw [hres]; rfl)⟩
  · rw [if_neg hdips] at hd
    subst hd
    exact ⟨v.tallies, v.freeze.notify, v.panelAlerts, v.driveAlerts, q, rfl, fun _ _ => rfl, fun _ h => h, hmem,
      fun r hr hres _ => mem_of_filter_eq hfilter hr (by rw [hres]; rfl)⟩

/-! ### Publications -/

/-- The state with a plan published. -/
theorem republish_published (pl : Plan) (s : State) :
    planPublished pl (!((s.plan.map (fun old => old.sameDecision pl)).getD false)) s (republish pl s) := by
  unfold planPublished republish
  cases (s.plan.map fun old => old.sameDecision pl).getD false <;> rfl

/-! ### A part write of DONE -/

theorem writeDone_phase (r : EndReason) (s : State) : (writeDone r s).lpr.phase = .done := by
  unfold writeDone
  split
  · assumption
  · obtain ⟨_, _, _, _, _, h, -⟩ := changeToDone_changed s r
    rw [h]

end Sys2Proof.Machine
end

section
/-! PROOFS. CHECKPOINT (O37), the hand-over's commands (O41 to O43) and what a new log item does to it (O44). -/

set_option Elab.async false

namespace Sys2Proof.Machine

@[simp] theorem State.unmarked_engine (s : State) (p : Port) : (s.unmarked p).engine = s.engine := s.setPort_engine p _

@[simp] theorem State.unmarked_handover (s : State) (p : Port) : (s.unmarked p).handover = s.handover := s.setPort_handover p _

@[simp] theorem State.unmarked_plan (s : State) (p : Port) : (s.unmarked p).plan = s.plan := s.setPort_plan p _

/-! ### CHECKPOINT (R46) -/

section Checkpoint

variable {p : Port} {s : State}

theorem takeCheckpoint_run (hr : s.runClosed = true) : takeCheckpoint p s = request (portOrigin p) s := if_pos hr

theorem takeCheckpoint_lastGasp (hr : s.runClosed = false) : takeCheckpoint p s = makeLastGasp s :=
  if_neg (Bool.eq_false_iff.mp hr)

@[simp] theorem State.unmarked_runClosed (s : State) (q : Port) : (s.unmarked q).runClosed = s.runClosed := by
  cases q <;> rfl

theorem takeCheckpoint_blind (p : Port) : PortBlind (takeCheckpoint p) :=
  PortBlind.ite (by intro s r q; cases r <;> rfl) (request_blind _) makeLastGasp_blind

theorem request_new {o : Origin} (h : s.engine.queue.any (Request.isOrigin o) = false) :
    request o s = { s with engine := { s.engine with queue := s.engine.queue ++ [.journal o s.snapshot] } } :=
  if_neg (Bool.eq_false_iff.mp h)

theorem makeLastGasp_new (h : s.engine.queue.any (Request.isOrigin .lastgasp) = false) : makeLastGasp s = { s with
    mains := { s.mains with lastGasp := .requested, window := none }
    engine := { s.engine with queue := .journal .lastgasp s.snapshot :: s.engine.queue } } :=
  if_neg (Bool.eq_false_iff.mp h)

theorem dealCheckpoint_busy (hb : s.built = false) : dealCheckpoint p 1 s = refusedPlain .busy s := by
  simp [dealCheckpoint, hb]

theorem dealCheckpoint_shut (hb : s.built = true) (hm : s.mayWrite p = false) :
    dealCheckpoint p 1 s = refusedPlain .wrongState s := by
  simp [dealCheckpoint, hb, hm]

theorem dealCheckpoint_waiting (hb : s.built = true) (hm : s.mayWrite p = true)
    (hq : s.engine.queue.any (Request.isOrigin (portOrigin p)) = true) : dealCheckpoint p 1 s = refusedPlain .busy s := by
  simp only [dealCheckpoint, hb, hm, Bool.true_eq_false, if_false, ne_eq, not_true, hq, if_true]

theorem dealCheckpoint_taken (hb : s.built = true) (hm : s.mayWrite p = true)
    (hq : s.engine.queue.any (Request.isOrigin (portOrigin p)) = false) : dealCheckpoint p 1 s =
      ⟨serve (takeCheckpoint p s), .ok, BitVec.ofNat 16 (takeCheckpoint p s).engine.queue.length⟩ := by
  simp only [dealCheckpoint, hb, hm, Bool.true_eq_false, Bool.false_eq_true, if_false, ne_eq, not_true, hq]
  rfl

theorem exec_checkpoint {idx : Index} {data d : Word} {r : Result} {t : State} (ht : takesFrames p s)
    (hd : dealCheckpoint p 1 (s.unmarked p) = ⟨t.unmarked p, r, d⟩) :
    exec (.checkpoint p 1 idx data) s = .next (t.withAnswer p (answerOf 3 r idx d (ackOf 3 1 r))) :=
  exec_answers (c := .checkpoint p 1 idx data) rfl (by decide) ht (by rw [dealFrame_frameOf]; exact hd)

/-- A taken CHECKPOINT, whatever it requests. -/
theorem exec_checkpoint_taken {idx : Index} {data : Word} (ht : takesFrames p s) (hb : s.built = true)
    (hm : s.mayWrite p = true) (hq : s.engine.queue.any (Request.isOrigin (portOrigin p)) = false) :
    exec (.checkpoint p 1 idx data) s = .next ((serve (takeCheckpoint p s)).withAnswer p
      (answerOf 3 .ok idx (BitVec.ofNat 16 (takeCheckpoint p s).engine.queue.length) .queued)) := by
  refine exec_checkpoint ht ?_
  rw [dealCheckpoint_taken ((s.unmarked_built p).trans hb) ((s.unmarked_mayWrite p p).trans hm) (by rwa [s.unmarked_engine]),
    (takeCheckpoint_blind p).unmarked, serve_blind.unmarked, State.unmarked_engine]

end Checkpoint

theorem mayWrite_of_runClosed {s : State} (p : Port) (h : s.runClosed = true) : s.mayWrite p = true := by
  cases p
  · exact h
  · exact Bool.or_eq_true_iff.mpr (.inl h)

theorem mayWrite_of_lastGasp {s : State} (h : s.lastGaspWrites = true) : s.mayWrite .drive = true :=
  Bool.or_eq_true_iff.mpr (.inr h)

theorem runClosed_of_lastGasp {s : State} (h : s.lastGaspWrites = true) : s.runClosed = false := by
  have hm : s.mains.mode = .fading := by simp_all [State.lastGaspWrites]
  simp [State.runClosed, hm]

/-- Settles O37: the checks of R46, then the request that the supply mode calls for. -/
theorem checkpointsQueueAnEntry : Obligations.CheckpointsQueueAnEntry := by
  intro p idx data s ht o ho
  obtain rfl : o = portOrigin p := ho.trans (by cases p <;> rfl)
  have hb' := s.unmarked_built p
  have hm' := s.unmarked_mayWrite p p
  refine ⟨fun hb => exec_checkpoint ht (dealCheckpoint_busy (hb'.trans hb)),
    fun hb hm => exec_checkpoint ht (dealCheckpoint_shut (hb'.trans hb) (hm'.trans hm)),
    fun hb hm hq => exec_checkpoint ht (dealCheckpoint_waiting (hb'.trans hb) (hm'.trans hm) (by rwa [s.unmarked_engine])),
    fun hb hr hq => ?_, fun hb hp hl hq hg => ?_⟩
  · have h := exec_checkpoint_taken (idx := idx) (data := data) ht hb (mayWrite_of_runClosed p hr) hq
    rw [takeCheckpoint_run hr, request_new hq, List.length_append] at h
    exact h
  · subst hp
    have h := exec_checkpoint_taken (idx := idx) (data := data) ht hb (mayWrite_of_lastGasp hl) hq
    rw [takeCheckpoint_lastGasp (runClosed_of_lastGasp hl), makeLastGasp_new hg] at h
    exact h

/-! ### Refused commands of the hand-over (R134) -/

theorem handOverRefuses_unmarked (r : Result) (s : State) (p : Port) : handOverRefuses r (s.unmarked p) =
    ⟨s.unmarked p, r, BitVec.ofNat 16 s.handover.state.code⟩ := by
  rw [handOverRefuses, s.unmarked_handover]
  rfl

section HandOver

variable {c : Instr} {p : Port} {cmd : Code} {idx : Index} {data : Word} {s : State}

/-- A command of the hand-over refused after its class. -/
theorem exec_handOverRefused {r : Result} (hf : c.frame = some (p, frameOf cmd 6 idx data)) (hc : cmd ≠ 15)
    (ht : takesFrames p s) (hr : r.takes = false)
    (hd : dealFrame p (frameOf cmd 6 idx data) (s.unmarked p) = handOverRefuses r (s.unmarked p)) :
    exec c s = .next (s.withAnswer p (answerOf cmd r idx (BitVec.ofNat 16 s.handover.state.code) .refused)) := by
  have hack : ackOf cmd 6 r = .refused := by rw [ackOf, hr]; rfl
  rw [← hack]
  exact exec_answers hf hc ht (hd.trans (handOverRefuses_unmarked r s p))

theorem dealConfirm_notOwner : dealConfirm .drive 6 s = handOverRefuses .notOwner s := rfl

theorem dealConfirm_wrongState (h : s.handover.state ≠ .offeredHold) : dealConfirm .panel 6 s = handOverRefuses .wrongState s := by
  simp [dealConfirm, h]

theorem dealConfirm_taken (h : s.handover.state = .offeredHold) :
    dealConfirm .panel 6 s = ⟨serve (recomputeConfirm s).1, .ok, BitVec.ofNat 16 (recomputeConfirm s).2.code⟩ := by
  simp only [dealConfirm, h, ne_eq, not_true, if_false]
  rfl

theorem dealAccept_notOwner : dealAccept .panel 6 data s = handOverRefuses .notOwner s := rfl

theorem dealAccept_wrongState (h1 : s.handover.state ≠ .offeredAuto) (h2 : s.handover.state ≠ .confirmed) :
    dealAccept .drive 6 data s = handOverRefuses .wrongState s := by
  simp [dealAccept, h1, h2]

theorem dealAccept_offered {pl : Plan} (h : s.handover.state = .offeredAuto ∨ s.handover.state = .confirmed)
    (hp : s.plan = some pl) : dealAccept .drive 6 data s = if data ≠ 0 ∧ data.toNat ≠ pl.evalCount then
      handOverRefuses .badValue s else ⟨serve (close (apply pl s)), .ok, BitVec.ofNat 16 pl.evalCount⟩ := by
  have hstate : ¬(s.handover.state ≠ .offeredAuto ∧ s.handover.state ≠ .confirmed) := fun hx => h.elim hx.1 hx.2
  unfold dealAccept
  rw [if_neg (by decide), if_neg (by decide), if_neg hstate, hp]
  rfl

theorem dealDecline_notOwner : dealDecline .drive 6 s = handOverRefuses .notOwner s := rfl

theorem dealDecline_wrongState (h : s.handover.state.offering = false) :
    dealDecline .panel 6 s = handOverRefuses .wrongState s := by
  simp [dealDecline, h]

theorem dealDecline_taken (h : s.handover.state.offering = true) :
    dealDecline .panel 6 s = ⟨serve (close (writeDone .phase s)), .ok, 0⟩ := by
  simp [dealDecline, h]

end HandOver

/-! ### DECLINE (R137) -/

/-- A closed hand-over after a part write of DONE. -/
theorem close_writeDone_frame {s v u : State} (hv : partWroteDone .phase s v) (hu : chainClosed v u) :
    u.lpr = v.lpr ∧ u.plan = s.plan ∧ u.handover.state = .closed ∧ u.kept = none ∧ u.outage.chainOpen = false
      ∧ u.freeze.ret = false ∧ Request.journal .resume u.snapshot ∈ u.engine.queue ∧ u.settings = s.settings
      ∧ u.journal = s.journal ∧ u.mains = s.mains ∧ u.drivePort = s.drivePort ∧ u.sched = v.sched := by
  have hsteady : Steady s v := by
    unfold partWroteDone at hv
    split at hv
    · exact hv ▸ Steady.refl s
    · obtain ⟨_, _, _, _, _, rfl, -⟩ := hv
      exact ⟨_, _, _, _, _, _, _, _, _, _, _, rfl⟩
  obtain ⟨ts, n, pa, da, q, rfl, -, -, hmem, -⟩ := chainClosed_eq hu
  obtain ⟨_, _, _, _, _, _, _, _, _, _, _, rfl⟩ := hsteady
  exact ⟨rfl, rfl, rfl, rfl, rfl, rfl, hmem, rfl, rfl, rfl, rfl, rfl⟩

/-- Settles O43: the refusals, and the close after DONE was written. -/
theorem declineEndsTheProgramme : Obligations.DeclineEndsTheProgramme := by
  intro idx data s
  refine ⟨fun ht => ?_, fun ht => ?_, fun ht h1 h2 => ?_, fun ht ho => ?_, fun ht ho => ?_⟩
  · exact exec_handOverRefused rfl (by decide) ht rfl (by rw [dealFrame_frameOf]; exact dealDecline_notOwner)
  · exact exec_handOverRefused rfl (by decide) ht rfl (by rw [dealFrame_frameOf]; exact dealAccept_notOwner)
  · refine exec_handOverRefused rfl (by decide) ht rfl ?_
    rw [dealFrame_frameOf]
    exact dealAccept_wrongState (by rwa [s.unmarked_handover]) (by rwa [s.unmarked_handover])
  · refine ⟨_, _, writeDone_wrote s .phase, ?_, close_closed (writeDone .phase s),
      close_writeDone_frame (writeDone_wrote s .phase) (close_closed _)⟩
    refine exec_answers (c := .decline .panel 6 idx data) (t := serve (close (writeDone .phase s))) rfl (by decide) ht ?_
    rw [dealFrame_frameOf, ← (serve_blind.comp (close_blind.comp (writeDone_blind .phase))).unmarked]
    exact dealDecline_taken (by rwa [s.unmarked_handover])
  · refine exec_handOverRefused rfl (by decide) ht rfl ?_
    rw [dealFrame_frameOf]
    exact dealDecline_wrongState (by rwa [s.unmarked_handover])

/-! ### CONFIRM (R133, R135) -/

theorem exec_confirm {idx : Index} {data : Word} {s : State} (ht : takesFrames .panel s)
    (hs : s.handover.state = .offeredHold) : exec (.confirm .panel 6 idx data) s =
      .next ((serve (recomputeConfirm s).1).withAnswer .panel
        (answerOf 6 .ok idx (BitVec.ofNat 16 (recomputeConfirm s).2.code) .taken)) := by
  refine exec_answers (c := .confirm .panel 6 idx data) rfl (by decide) ht ?_
  rw [dealFrame_frameOf, ← serve_blind.unmarked]
  have h : recomputeConfirm (s.unmarked .panel) = ((recomputeConfirm s).1.unmarked .panel, (recomputeConfirm s).2) := by
    have hport : (recomputeConfirm s).1.port .panel = s.port .panel := (recomputeConfirm_keeps s).panelPort
    rw [State.unmarked, recomputeConfirm_blind, State.unmarked, hport]
  have hd := dealConfirm_taken (s := s.unmarked .panel) (by rwa [s.unmarked_handover])
  rw [h] at hd
  exact hd

section Confirm

variable {s : State} {k : Kept} {pl : Plan}

theorem recomputeConfirm_offered (hk : s.kept = some k) (hp : pl = s.recomputed k true)
    (hv : pl.verdict = .auto ∨ pl.verdict = .hold) :
    recomputeConfirm s = ({ republish pl s with handover.state := .confirmed }, pl.verdict) := by
  subst hp
  unfold recomputeConfirm
  rw [hk]
  rcases hv with hv | hv <;> simp only [hv]

theorem recomputeConfirm_ended (hk : s.kept = some k) (hp : pl = s.recomputed k true) (hv : pl.verdict = .ended) :
    recomputeConfirm s = (carryEnd (republish pl s), .ended) := by
  subst hp
  unfold recomputeConfirm
  rw [hk]
  simp only [hv]

end Confirm

/-- Settles O41: by the verdict of the recomputation. -/
theorem confirmRecomputes : Obligations.ConfirmRecomputes := by
  intro idx data s
  refine ⟨fun ht hs k pl hk hp => ⟨fun changed hc hv => ?_, fun hv => ?_⟩, fun ht hs => ?_, fun ht => ?_⟩
  · have h := exec_confirm (idx := idx) (data := data) ht hs
    rw [recomputeConfirm_offered hk hp hv] at h
    have hpub := republish_published pl s
    rw [← hc, planPublished] at hpub
    rw [h, hpub]
  · have h := exec_confirm (idx := idx) (data := data) ht hs
    rw [recomputeConfirm_ended hk hp hv] at h
    refine ⟨_, h, ?_⟩
    have hpub := republish_published pl s
    unfold planPublished at hpub
    obtain ⟨ts, n, pa, da, q, hclosed, -⟩ := chainClosed_eq (close_closed (writeDone .phase (republish pl s)))
    obtain ⟨e, key, hserve⟩ := serve_eq (carryEnd (republish pl s))
    obtain ⟨_, _, _, _, _, _, _, _, _, _, _, hdone⟩ := writeDone_steady (republish pl s) .phase
    have hphase := writeDone_phase .phase (republish pl s)
    rw [hserve, show carryEnd (republish pl s) = close (writeDone .phase (republish pl s)) from rfl, hclosed]
    refine ⟨?_, rfl, rfl, hphase, rfl, rfl, ?_, ?_, ?_, ?_⟩ <;> rw [hdone, hpub] <;> rfl
  · refine exec_handOverRefused rfl (by decide) ht rfl ?_
    rw [dealFrame_frameOf]
    exact dealConfirm_wrongState (by rwa [s.unmarked_handover])
  · exact exec_handOverRefused rfl (by decide) ht rfl (by rw [dealFrame_frameOf]; exact dealConfirm_notOwner)

/-! ### A new log item at the hand-over (R138) -/

theorem sameDecision_iff (a b : Plan) : a.sameDecision b = true ↔
    a.verdict = b.verdict ∧ a.reasons = b.reasons ∧ a.target = b.target ∧ a.cls = b.cls ∧ a.dPrime = b.dPrime
      ∧ a.rawHeat = b.rawHeat ∧ a.credit = b.credit ∧ a.heatSec = b.heatSec ∧ a.coolSec = b.coolSec ∧ a.elapsed = b.elapsed
      ∧ a.windowRem = b.windowRem ∧ a.offset = b.offset ∧ a.recovery = b.recovery := by
  simp only [Plan.sameDecision, Bool.and_eq_true, beq_iff_eq, and_assoc]

section NewItem

variable {k : ItemKind} {s : State}

theorem newLogItem_closed (h : s.handover.state = .closed ∨ s.handover.state = .offeredHold) : newLogItem k s = s := by
  unfold newLogItem
  rcases h with h | h <;> rw [h]

theorem newLogItem_evaluating (h : s.handover.state = .evaluating) :
    newLogItem k s = if s.inputsTaken then { s with handover.late := true } else s := by
  unfold newLogItem
  rw [h]

theorem newLogItem_offeredAuto (h : s.handover.state = .offeredAuto) : newLogItem k s = recomputeAuto s := by
  unfold newLogItem
  rw [h]

theorem newLogItem_confirmed (h : s.handover.state = .confirmed) : newLogItem k s =
    if k.isDoor then raiseBoth .planChanged { s with handover.state := .offeredHold } else s := by
  unfold newLogItem
  rw [h]

end NewItem

theorem isDoor_iff (k : ItemKind) : k.isDoor = true ↔ k = .doorOpen ∨ k = .doorClose := by
  cases k <;> simp [ItemKind.isDoor]

theorem inputsTaken_iff {s : State} (h : s.handover.state = .evaluating) :
    s.inputsTaken = true ↔ s.engine.scanDue = false ∧ s.engine.work ≠ .scanning := by
  simp [State.inputsTaken, h]

/-- The recomputation of an offer that needs no confirmation, by its verdict. -/
theorem recomputeAuto_eq {s : State} {kp : Kept} {pl : Plan} (hk : s.kept = some kp) (hp : pl = s.recomputed kp false) :
    recomputeAuto s = match pl.verdict with
      | .hold => { republish pl s with handover.state := .offeredHold }
      | .ended => carryEnd (republish pl s)
      | .auto | .none => republish pl s := by
  subst hp
  unfold recomputeAuto
  split
  case h_1 h => exact nomatch hk.symm.trans h
  case h_2 h =>
    obtain rfl := Option.some.inj (hk.symm.trans h)
    rfl

/-- Settles O44: by the state of the hand-over. -/
theorem newLogItemsReachTheHandOver : Obligations.NewLogItemsReachTheHandOver := by
  refine ⟨fun k s => ⟨newLogItem_closed, fun h hscan => ?_, fun h h1 h2 => ?_, fun h hk => ?_, fun h h1 h2 => ?_, ?_⟩,
    sameDecision_iff, fun s hrun => ⟨closeBurst s, closeBurst_closed s, congrArg _ (if_pos hrun)⟩⟩
  · rw [newLogItem_evaluating h, if_neg]
    rw [inputsTaken_iff h]
    rintro ⟨hd, hw⟩
    rcases hscan with hscan | hscan
    · rw [hscan] at hd
      exact nomatch hd
    · exact hw hscan
  · rw [newLogItem_evaluating h, if_pos ((inputsTaken_iff h).mpr ⟨h1, h2⟩)]
  · rw [newLogItem_confirmed h, if_pos ((isDoor_iff k).mpr hk)]
    rfl
  · rw [newLogItem_confirmed h, if_neg (mt (isDoor_iff k).mp (not_or.mpr ⟨h1, h2⟩))]
  · intro h kp old pl v hk hold hp hv
    have hrec : pl = s.recomputed kp false := by rw [hp, State.recomputed, hold]; rfl
    have hpub : v = republish pl s := by
      have hr := republish_published pl s
      rw [hold] at hr
      exact hv.trans hr.symm
    rw [newLogItem_offeredAuto h, recomputeAuto_eq hk hrec]
    refine ⟨fun he => ?_, fun he => ?_, fun he => ?_⟩
    · rw [he, hpub]
    · have hh : v.handover = s.handover := by rw [hv]
      rw [he, hpub, ← hh, hpub]
    · rw [he, hpub]
      exact ⟨_, writeDone_wrote _ _, close_closed _⟩

end Sys2Proof.Machine
end

section
/-! PROOFS. ACCEPT: the plan that stands is applied and the hand-over closes (spec/08_plan_hand_over_and_heat_permit.md sections 8.3,
8.5, 8.6; O42). -/

set_option Elab.async false

namespace Sys2Proof.Machine

/-! ### The preload of the target tally (R34, R140 step 2) -/

/-- A tally preloaded with a planned heat. -/
def preloaded (t : Tally) (heatSec : Nat) : Tally where
  value := 16777216 - heatSec
  overflow := false
  edgeMem := false
  ctl := (((t.ctl.set 0 1).set 1 0).set 4 1).set 5 1

theorem preloaded_ctl (t : Tally) (n : Nat) : (preloaded t n).ctl[0] = 1 ∧ (preloaded t n).ctl[1] = 0
    ∧ (preloaded t n).ctl[4] = 1 ∧ (preloaded t n).ctl[5] = 1 := by simp [preloaded]

/-- A preloaded tally counts heater seconds, and so no mains dips. -/
theorem preloaded_source (t : Tally) (n : Nat) (i : Fin 6) : (preloaded t n).source i ≠ .mainsDips := by
  have h : (preloaded t n).ctl[(0 : Fin 6)] = 1 := (preloaded_ctl t n).1
  have hu : controlUse i 0 (preloaded t n).ctl = 1 := by
    unfold controlUse
    rw [h]
    revert i
    decide
  rw [Tally.source, hu]
  decide

/-- The preload: the target tally of a HEAT plan, and no other. -/
theorem preloadTarget_eq (pl : Plan) (s : State) : ∃ ts pr, preloadTarget pl s = { s with tallies := ts, preloaded := pr }
    ∧ (∀ i : Fin 6, pl.target ≠ .heat ∨ s.settings.cfg 1 ≠ i.val → ts[i] = s.tallies[i])
    ∧ (pl.target = .heat → ∀ i : Fin 6, s.settings.cfg 1 = i.val → ts[i] = preloaded s.tallies[i] pl.heatSec ∧ pr = some i) := by
  unfold preloadTarget
  by_cases ht : pl.target = .heat
  · rw [if_pos ht]
    by_cases hc : s.settings.cfg 1 < 6
    · rw [dif_pos hc]
      refine ⟨s.tallies.set _ (preloaded s.tallies[(⟨s.settings.cfg 1, hc⟩ : Fin 6)] pl.heatSec), _, rfl, fun i hi => ?_,
        fun _ i hi => ?_⟩
      · have hne : s.settings.cfg 1 ≠ i.val := hi.resolve_left (not_not.mpr ht)
        simp [hne]
      · obtain rfl : i = ⟨s.settings.cfg 1, hc⟩ := Fin.ext hi.symm
        simp
    · rw [dif_neg hc]
      exact ⟨_, _, rfl, fun _ _ => rfl, fun _ i hi => absurd (hi ▸ i.isLt) hc⟩
  · rw [if_neg ht]
    exact ⟨_, _, rfl, fun _ _ => rfl, fun h => absurd h ht⟩

/-! ### The apply (R140) -/

/-- What every apply leaves alone, and the two things that every apply does. -/
theorem apply_frame (pl : Plan) (s : State) :
    Steady { s with lpr := { s.lpr with deficit := pl.dPrime }, freeze := { s.freeze with ret := false } } (apply pl s) := by
  have h1 : Steady { s with lpr := { s.lpr with deficit := pl.dPrime, runReq := .run } }
      (applyPhase pl (preloadTarget pl { s with lpr := { s.lpr with deficit := pl.dPrime, runReq := .run } })) :=
    (preloadTarget_steady _ pl).trans (applyPhase_steady _ pl)
  have h2 : Steady { s with lpr := { s.lpr with deficit := pl.dPrime }, freeze := { s.freeze with ret := false } }
      (applyRecord pl s) := by
    obtain ⟨_, _, _, _, _, _, _, _, _, _, _, h⟩ := h1
    unfold applyRecord
    dsimp only at h ⊢
    rw [h]
    exact ⟨_, _, _, _, _, _, _, _, _, _, _, rfl⟩
  rw [apply_eq]
  exact (Steady.ite (h2.trans (planStart_steady _ pl)) h2).trans (applyRequest_steady _ pl _)

/-- The phase of an apply that does not write DONE. -/
theorem applyPhase_eq {pl : Plan} (hd : pl.target ≠ .done) (s : State) : ∃ sc pa da, applyPhase pl s = { s with
    lpr := { s.lpr with phase := pl.target, phaseClock := pl.applyClock, partMs := 0 }
    sched := sc, panelAlerts := pa, driveAlerts := da } := by
  have hput : putPhase pl.target pl.applyClock s =
    { s with lpr := { s.lpr with phase := pl.target, phaseClock := pl.applyClock, partMs := 0 } } := rfl
  unfold applyPhase
  split
  · exact ⟨_, _, _, hput⟩
  · dsimp only
    split
    · unfold endByChange
      split
      · exact ⟨_, _, _, rfl⟩
      · exact ⟨_, _, _, hput⟩
    · exact ⟨_, _, _, hput⟩

/-- What the record's part of such an apply does. -/
theorem applyRecord_eq {pl : Plan} (hd : pl.target ≠ .done) (s : State) : ∃ ts pr sc pa da, applyRecord pl s = { s with
      lpr := { s.lpr with deficit := pl.dPrime, runReq := .run, phase := pl.target, phaseClock := pl.applyClock, partMs := 0 }
      tallies := ts, preloaded := pr, sched := sc, panelAlerts := pa, driveAlerts := da
      freeze := { s.freeze with ret := false } }
    ∧ (∀ i : Fin 6, pl.target ≠ .heat ∨ s.settings.cfg 1 ≠ i.val → ts[i] = s.tallies[i])
    ∧ (pl.target = .heat → ∀ i : Fin 6, s.settings.cfg 1 = i.val → ts[i] = preloaded s.tallies[i] pl.heatSec ∧ pr = some i) := by
  obtain ⟨ts, pr, hpre, hother, hmine⟩ :=
    preloadTarget_eq pl { s with lpr := { s.lpr with deficit := pl.dPrime, runReq := .run } }
  obtain ⟨sc, pa, da, hphase⟩ :=
    applyPhase_eq hd (preloadTarget pl { s with lpr := { s.lpr with deficit := pl.dPrime, runReq := .run } })
  refine ⟨ts, pr, sc, pa, da, ?_, hother, hmine⟩
  unfold applyRecord
  dsimp only at hphase hpre ⊢
  rw [hphase, hpre]

/-- What a plan start with a window to go does: recovery, or a rest. -/
theorem planStart_started {pl : Plan} {s : State} (hw : s.lpr.phaseClock < pl.elapsed + pl.windowRem) :
    ∃ sc da, planStart pl s = { s with sched := sc, driveAlerts := da } ∧ sc.missed = 0
      ∧ sc.windowEnd = pl.elapsed + pl.windowRem
      ∧ (0 < pl.recovery → sc.state = .recovery ∧ sc.remaining = pl.recovery * 1000 ∧ sc.pulseDir = pl.nextDir
        ∧ sc.nextDir = pl.nextDir.opposite ∧ da.has Alert.tumbleDue.num = true)
      ∧ (pl.recovery = 0 → sc.state = .resting ∧ sc.remaining = pl.offset * 1000 ∧ sc.nextDir = pl.nextDir) := by
  rw [planStart_eq]
  by_cases hr : pl.recovery > 0
  · rw [if_pos hr]
    exact ⟨_, _, rfl, rfl, rfl, fun _ => ⟨rfl, rfl, rfl, rfl, has_add_self _ _⟩, fun h => absurd hr (by omega)⟩
  · rw [if_neg hr, enterRest, windowTest, if_neg (by exact Nat.not_le.mpr hw)]
    exact ⟨_, _, rfl, rfl, rfl, fun h => absurd h hr, fun _ => ⟨rfl, rfl, rfl⟩⟩

/-- The request of an apply that does not write DONE. -/
theorem applyRequest_eq {pl : Plan} (hd : pl.target ≠ .done) (old : Phase) (s : State) : ∃ q,
    applyRequest pl old s = { s with engine := { s.engine with queue := q } }
    ∧ (old = pl.target → q = s.engine.queue)
    ∧ (old ≠ pl.target → phaseRequested s { s with engine := { s.engine with queue := q } }) := by
  unfold applyRequest
  by_cases ho : old = pl.target
  · exact ⟨s.engine.queue, if_pos (.inl ho), fun _ => rfl, fun h => absurd ho h⟩
  · obtain ⟨q, hq, hreq⟩ := requestPhase_cases s
    exact ⟨q, (if_neg (not_or.mpr ⟨ho, hd⟩)).trans hq, fun h => absurd h ho, fun _ => hreq⟩

/-- An apply to HEAT, COOL, or ANTICREASE with a window to go: the record, the tallies, the scheduler and the request. -/
structure Applied (pl : Plan) (s v : State) : Prop where
  frame : ∃ ts pr sc pa da q, v = { s with
    lpr := { s.lpr with deficit := pl.dPrime, runReq := .run, phase := pl.target, phaseClock := pl.applyClock, partMs := 0 }
    tallies := ts, preloaded := pr, sched := sc, panelAlerts := pa, driveAlerts := da
    freeze := { s.freeze with ret := false }, engine := { s.engine with queue := q } }
  same : s.lpr.phase = pl.target → v.engine = s.engine
  changed : s.lpr.phase ≠ pl.target → phaseRequested s v
  otherTallies : ∀ i : Fin 6, pl.target ≠ .heat ∨ s.settings.cfg 1 ≠ i.val → v.tallies[i] = s.tallies[i]
  target : pl.target = .heat → ∀ i : Fin 6, s.settings.cfg 1 = i.val →
    v.tallies[i] = preloaded s.tallies[i] pl.heatSec ∧ v.preloaded = some i
  started : pl.target = .anticrease → v.sched.missed = 0 ∧ v.sched.windowEnd = pl.elapsed + pl.windowRem
    ∧ (0 < pl.recovery → v.sched.state = .recovery ∧ v.sched.remaining = pl.recovery * 1000 ∧ v.sched.pulseDir = pl.nextDir
      ∧ v.sched.nextDir = pl.nextDir.opposite ∧ v.driveAlerts.has Alert.tumbleDue.num = true)
    ∧ (pl.recovery = 0 → v.sched.state = .resting ∧ v.sched.remaining = pl.offset * 1000 ∧ v.sched.nextDir = pl.nextDir)

theorem apply_applied {pl : Plan} {s : State}
    (ht : pl.target = .heat ∨ pl.target = .cool ∨ (pl.target = .anticrease ∧ 0 < pl.windowRem)) : Applied pl s (apply pl s) := by
  have hd : pl.target ≠ .done := by
    rcases ht with h | h | ⟨h, -⟩ <;> rw [h] <;> decide
  obtain ⟨ts, pr, sc, pa, da, hrec, hother, hmine⟩ := applyRecord_eq hd s
  rw [apply_eq]
  by_cases ha : pl.target = .anticrease
  · have hw : 0 < pl.windowRem := by
      rcases ht with h | h | ⟨-, hw⟩
      · exact nomatch ha.symm.trans h
      · exact nomatch ha.symm.trans h
      · exact hw
    rw [if_pos ha]
    have hclock : (applyRecord pl s).lpr.phaseClock < pl.elapsed + pl.windowRem := by
      rw [hrec]
      show pl.applyClock < _
      rw [Plan.applyClock, if_pos ha]
      omega
    obtain ⟨sc', da', hstart, h1, h2, h3, h4⟩ := planStart_started hclock
    obtain ⟨q, hreq, hsame, hchanged⟩ := applyRequest_eq hd s.lpr.phase (planStart pl (applyRecord pl s))
    rw [hreq]
    rw [hstart, hrec] at hsame hchanged ⊢
    exact ⟨⟨_, _, _, _, _, _, rfl⟩, fun h => by rw [hsame h], hchanged, hother, hmine, fun _ => ⟨h1, h2, h3, h4⟩⟩
  · rw [if_neg ha]
    obtain ⟨q, hreq, hsame, hchanged⟩ := applyRequest_eq hd s.lpr.phase (applyRecord pl s)
    rw [hreq]
    rw [hrec] at hsame hchanged ⊢
    exact ⟨⟨_, _, _, _, _, _, rfl⟩, fun h => by rw [hsame h], hchanged, hother, hmine, fun h => absurd h ha⟩

/-! ### ACCEPT (R136) -/

theorem exec_accept {idx : Index} {data : Word} {pl : Plan} {s : State} (ht : takesFrames .drive s)
    (hs : s.handover.state = .offeredAuto ∨ s.handover.state = .confirmed) (hp : s.plan = some pl)
    (hd : data = 0 ∨ data.toNat = pl.evalCount) : exec (.accept .drive 6 idx data) s =
      .next ((serve (close (apply pl s))).withAnswer .drive (answerOf 7 .ok idx (BitVec.ofNat 16 pl.evalCount) .taken)) := by
  refine exec_answers (c := .accept .drive 6 idx data) (t := serve (close (apply pl s))) rfl (by decide) ht ?_
  rw [dealFrame_frameOf, ← (serve_blind.comp (close_blind.comp (apply_blind pl))).unmarked]
  refine (dealAccept_offered (by rwa [s.unmarked_handover]) (by rwa [s.unmarked_plan])).trans (if_neg fun h => ?_)
  exact hd.elim h.1 h.2

/-- Settles O42: the apply, then the close. -/
theorem acceptAppliesThePlan : Obligations.AcceptAppliesThePlan := by
  intro idx data pl s ht hs hp
  refine ⟨fun h0 hne => ?_, fun hd => ⟨close (apply pl s), apply pl s, exec_accept ht hs hp hd, ?_⟩⟩
  · refine exec_handOverRefused rfl (by decide) ht rfl ?_
    rw [dealFrame_frameOf]
    exact (dealAccept_offered (by rwa [s.unmarked_handover]) (by rwa [s.unmarked_plan])).trans (if_pos ⟨h0, hne⟩)
  · obtain ⟨ts, n, pa, da, q, hu, htallies, halerts, hmem, hqueue⟩ := chainClosed_eq (close_closed (apply pl s))
    obtain ⟨_, _, _, _, _, _, _, _, _, _, _, hv⟩ := apply_frame pl s
    rw [hu] at hmem ⊢
    refine ⟨rfl, rfl, ?_, rfl, rfl, rfl, ?_, hmem, ?_, ?_, ?_, ?_, hu ▸ close_closed (apply pl s), ?_, ?_, ?_, ?_⟩
    · rw [hv]
    · rw [hv]
    · rw [hv]
    · rw [hv]
    · rw [hv]
    · rw [hv]
    · intro htarget
      have ha := apply_applied (s := s) htarget
      exact ⟨ha.same, ha.changed, ha.otherTallies, hqueue⟩
    · intro htarget
      have ha := apply_applied (s := s) (.inl htarget)
      obtain ⟨_, _, _, _, _, _, hframe⟩ := ha.frame
      have hclock : pl.applyClock = 0 := if_neg (by rw [htarget]; decide)
      refine ⟨?_, ?_, ?_, ?_, fun i hi => ?_⟩
      · rw [hframe, ← htarget]
      · rw [hframe, hclock]
      · rw [hframe]
      · rw [hframe]
      · obtain ⟨hti, hpi⟩ := ha.target htarget i hi
        have hts : ts[i] = preloaded s.tallies[i] pl.heatSec :=
          (htallies i (hti ▸ preloaded_source _ _ i)).trans hti
        show ts[i].value = _ ∧ ts[i].overflow = _ ∧ _ ∧ ts[i].ctl[0] = _ ∧ ts[i].ctl[1] = _ ∧ ts[i].ctl[4] = _ ∧ ts[i].ctl[5] = _
        rw [hts]
        exact ⟨rfl, rfl, hpi, preloaded_ctl _ _⟩
    · intro htarget
      obtain ⟨_, _, _, _, _, _, hframe⟩ := (apply_applied (s := s) (.inr (.inl htarget))).frame
      have hclock : pl.applyClock = 0 := if_neg (by rw [htarget]; decide)
      refine ⟨?_, ?_, ?_, ?_⟩
      · rw [hframe, ← htarget]
      · rw [hframe, hclock]
      · rw [hframe]
      · rw [hframe]
    · intro htarget hw
      have ha := apply_applied (s := s) (.inr (.inr ⟨htarget, hw⟩))
      obtain ⟨_, _, _, _, _, _, hframe⟩ := ha.frame
      obtain ⟨h1, h2, h3, h4⟩ := ha.started htarget
      have hclock : pl.applyClock = pl.elapsed := if_pos htarget
      refine ⟨?_, ?_, ?_, h1, h2, fun hr => ?_, h4⟩
      · rw [hframe, ← htarget]
      · rw [hframe, hclock]
      · rw [hframe]
      · obtain ⟨ha1, ha2, ha3, ha4, ha5⟩ := h3 hr
        exact ⟨ha1, ha2, ha3, ha4, halerts _ ha5⟩

end Sys2Proof.Machine
end

section
/-! PROOFS. Supply mode, hand-over, freeze set, build and scan stay in agreement (spec chapters 5 and 8; O14). The statement reads
twelve values of the state; each act is described by what it does to these, and most leave them alone. -/

set_option Elab.async false

namespace Sys2Proof.Machine

/-! ### What the statement reads -/

/-- The values that `supplySound` reads. -/
structure SupplyView where
  handover : HoState
  mode : Mode
  lastGasp : LastGasp
  windowOpen : Bool
  qualPending : Bool
  chainOpen : Bool
  ret : Bool
  loss : Bool
  scanDue : Bool
  scanning : Bool
  built : Bool
  running : Bool

/-- Those values of a state. -/
def State.supply (s : State) : SupplyView where
  handover := s.handover.state
  mode := s.mains.mode
  lastGasp := s.mains.lastGasp
  windowOpen := s.mains.window.isSome
  qualPending := s.mains.qualPending
  chainOpen := s.outage.chainOpen
  ret := s.freeze.ret
  loss := s.freeze.loss
  scanDue := s.engine.scanDue
  scanning := decide (s.engine.work = .scanning)
  built := s.built
  running := s.mainRunning

/-- The agreement of those values. -/
structure SupplyView.Sound (v : SupplyView) : Prop where
  offer : v.handover ≠ .closed → v.mode = .run ∧ v.chainOpen = true ∧ v.ret = true
  scan : v.scanDue = true ∨ v.scanning = true → v.mode = .run ∧ v.handover.offering = false
  once : ¬(v.scanDue = true ∧ v.scanning = true)
  offered : v.handover.offering = true → v.built = true
  waking : v.mode = .waking → v.built = false
  unbuilt : v.built = false → v.ret = true
  dark : v.mode = .fading ∨ v.mode = .held → v.loss = true ∧ v.chainOpen = true
  gasp : v.lastGasp = .due → v.mode = .fading ∧ v.windowOpen = true
  window : v.windowOpen = true ∨ v.qualPending = true → v.mode = .fading
  stopped : v.running = false → v.mode = .waking

theorem supplySound_iff (s : State) : supplySound s ↔ s.supply.Sound := by
  have hscan : s.supply.scanning = true ↔ s.engine.work = .scanning := decide_eq_true_iff
  constructor
  · rintro ⟨h1, h2, h3, h4, h5, h6, h7, h8, h9, h10⟩
    exact ⟨h1, fun h => h2 (h.imp_right hscan.mp), fun h => h3 ⟨h.1, hscan.mp h.2⟩, h4, h5, h6, h7, h8, h9, h10⟩
  · rintro ⟨h1, h2, h3, h4, h5, h6, h7, h8, h9, h10⟩
    exact ⟨h1, fun h => h2 (h.imp_right hscan.mpr), fun h => h3 ⟨h.1, hscan.mpr h.2⟩, h4, h5, h6, h7, h8, h9, h10⟩

/-! ### Acts that keep the agreement -/

/-- What led to `s` in agreement leads to `t` in agreement. -/
def Supplied (s t : State) : Prop := s.supply.Sound → t.supply.Sound

namespace Supplied

variable {s t u : State}

theorem refl (s : State) : Supplied s s := id

theorem trans (h : Supplied s t) (k : Supplied t u) : Supplied s u := fun hs => k (h hs)

/-- As `trans`, with the later of the two first. -/
theorem after (k : Supplied t u) (h : Supplied s t) : Supplied s u := h.trans k

/-- Nothing that the statement reads moves. -/
theorem of_eq (h : t.supply = s.supply) : Supplied s t := fun hs => h ▸ hs

theorem of_steady (h : Steady s t) : Supplied s t := by
  obtain ⟨_, _, _, _, _, _, _, _, _, _, _, rfl⟩ := h
  exact id

theorem ite {c : Prop} [Decidable c] {a b : State} (h : c → Supplied s a) (k : ¬c → Supplied s b) :
    Supplied s (if c then a else b) := by
  split
  · exact h ‹_›
  · exact k ‹_›

theorem guarded {c : Prop} [Decidable c] {a : State} (h : c → Supplied s a) : Supplied s (if c then a else s) :=
  ite h fun _ => refl s

end Supplied

theorem Steady.supply {s t : State} (h : Steady s t) : t.supply = s.supply := by
  obtain ⟨_, _, _, _, _, _, _, _, _, _, _, rfl⟩ := h
  rfl

/-! ### The hand-over -/

/-- The agreement after a close. -/
theorem SupplyView.Sound.closed {v : SupplyView} (h : v.Sound) (hm : v.mode = .run) (hb : v.built = true) (r : Bool) :
    ({ v with handover := .closed, chainOpen := false, ret := r } : SupplyView).Sound where
  offer := absurd rfl
  scan _ := ⟨hm, rfl⟩
  once := h.once
  offered := nofun
  waking hw := absurd (hm.symm.trans hw) nofun
  unbuilt hu := absurd (hb.symm.trans hu) nofun
  dark hd := hd.elim (fun hd => absurd (hm.symm.trans hd) nofun) fun hd => absurd (hm.symm.trans hd) nofun
  gasp := h.gasp
  window := h.window
  stopped := h.stopped

/-- The agreement with an offer or an evaluation turned into another. -/
theorem SupplyView.Sound.offers {v : SupplyView} (h : v.Sound) (hn : v.handover ≠ .closed) (hd : v.scanDue = false)
    (hs : v.scanning = false) (hb : v.built = true) (o : HoState) : ({ v with handover := o } : SupplyView).Sound where
  offer _ := h.offer hn
  scan hx := hx.elim (fun hx => absurd (hd.symm.trans hx) nofun) fun hx => absurd (hs.symm.trans hx) nofun
  once := h.once
  offered _ := hb
  waking := h.waking
  unbuilt := h.unbuilt
  dark := h.dark
  gasp := h.gasp
  window := h.window
  stopped := h.stopped

/-- An offer stands while no scan is due or in progress. -/
theorem SupplyView.Sound.no_scan {v : SupplyView} (h : v.Sound) (ho : v.handover.offering = true) :
    v.scanDue = false ∧ v.scanning = false := by
  constructor
  · refine Bool.eq_false_iff.mpr fun hd => ?_
    exact absurd (ho.symm.trans (h.scan (.inl hd)).2) nofun
  · refine Bool.eq_false_iff.mpr fun hd => ?_
    exact absurd (ho.symm.trans (h.scan (.inr hd)).2) nofun

theorem HoState.ne_closed {o : HoState} (h : o.offering = true) : o ≠ .closed := by
  rintro rfl
  exact nomatch h

theorem close_supply (s : State) : (close s).supply = { s.supply with handover := .closed, chainOpen := false, ret := false } := by
  obtain ⟨_, _, _, _, _, h, -⟩ := chainClosed_eq (close_closed s)
  rw [h]
  rfl

section HandOver

variable (s : State)

/-- A close with an offer standing, or at a verdict. -/
theorem close_supplied (hm : s.mains.mode = .run) (hb : s.built = true) : Supplied s (close s) := by
  intro h
  rw [close_supply]
  exact h.closed hm hb false

theorem carryEnd_supplied (hm : s.mains.mode = .run) (hb : s.built = true) : Supplied s (carryEnd s) := by
  obtain ⟨_, _, _, _, _, _, _, _, _, _, _, he⟩ := writeDone_steady s .phase
  exact (Supplied.of_steady (writeDone_steady s .phase)).trans (close_supplied _ (by rw [he]; exact hm) (by rw [he]; exact hb))

theorem republish_supply (pl : Plan) : (republish pl s).supply = s.supply := by
  have h := republish_published pl s
  unfold planPublished at h
  rw [h]
  rfl

/-- An offer stands in RUN, on a built record. -/
theorem run_of_offering {v : SupplyView} (h : v.Sound) (ho : v.handover.offering = true) : v.mode = .run ∧ v.built = true :=
  ⟨(h.offer (HoState.ne_closed ho)).1, h.offered ho⟩

/-- The end of an offer is carried out. -/
theorem carryEnd_offered (ho : s.handover.state.offering = true) : Supplied s (carryEnd s) := fun h =>
  carryEnd_supplied s (run_of_offering h ho).1 (run_of_offering h ho).2 h

/-- An offer becomes another. -/
theorem offer_supplied (ho : s.handover.state.offering = true) (o : HoState) : Supplied s { s with handover.state := o } :=
  fun h => h.offers (HoState.ne_closed ho) (h.no_scan ho).1 (h.no_scan ho).2 (h.offered ho) o

theorem recomputeAuto_supplied (ho : s.handover.state.offering = true) : Supplied s (recomputeAuto s) := by
  have hpub (pl : Plan) : Supplied s (republish pl s) := Supplied.of_eq (republish_supply s pl)
  have hof (pl : Plan) : (republish pl s).handover.state.offering = true := by rw [republish_handover]; exact ho
  unfold recomputeAuto
  split
  · exact Supplied.refl s
  · dsimp only
    split
    · exact (hpub _).trans (offer_supplied _ (hof _) _)
    · exact (hpub _).trans (carryEnd_offered _ (hof _))
    · exact hpub _
    · exact hpub _

theorem recomputeConfirm_supplied (ho : s.handover.state.offering = true) : Supplied s (recomputeConfirm s).1 := by
  have hpub (pl : Plan) : Supplied s (republish pl s) := Supplied.of_eq (republish_supply s pl)
  have hof (pl : Plan) : (republish pl s).handover.state.offering = true := by rw [republish_handover]; exact ho
  unfold recomputeConfirm
  split
  · exact Supplied.refl s
  · dsimp only
    split
    · exact (hpub _).trans (offer_supplied _ (hof _) _)
    · exact (hpub _).trans (offer_supplied _ (hof _) _)
    · exact (hpub _).trans (carryEnd_offered _ (hof _))
    · exact hpub _

theorem newLogItem_supplied (k : ItemKind) : Supplied s (newLogItem k s) := by
  cases h : s.handover.state with
  | closed => rw [newLogItem_closed (.inl h)]; exact Supplied.refl s
  | offeredHold => rw [newLogItem_closed (.inr h)]; exact Supplied.refl s
  | evaluating =>
    rw [newLogItem_evaluating h]
    exact Supplied.guarded fun _ => Supplied.of_eq rfl
  | offeredAuto =>
    rw [newLogItem_offeredAuto h]
    exact recomputeAuto_supplied s (by rw [h]; rfl)
  | confirmed =>
    rw [newLogItem_confirmed h]
    exact Supplied.guarded fun _ => (offer_supplied s (by rw [h]; rfl) .offeredHold).trans (Supplied.of_eq rfl)

theorem appendItem_supply (k : ItemKind) (a : Option Nat) : (appendItem k a s).supply = s.supply := rfl

theorem senseItem_supplied (k : ItemKind) (a : Option Nat) : Supplied s (senseItem k a s) :=
  (newLogItem_supplied _ k).after (Supplied.of_eq (appendItem_supply s k a))

/-- The plan is applied and the hand-over closes: RETURN leaves the freeze set a step earlier than the close. -/
theorem close_apply_supplied (ho : s.handover.state.offering = true) (pl : Plan) : Supplied s (close (apply pl s)) := by
  intro h
  obtain ⟨hm, hb⟩ := run_of_offering h ho
  have ha : (apply pl s).supply = { s.supply with ret := false } := (apply_frame pl s).supply
  rw [close_supply, ha]
  exact h.closed hm hb false

end HandOver

/-! ### The engine -/

/-- A due scan begins, or other work that is no scan. -/
theorem startWork_supplied (s : State) (hidle : s.engine.work = .idle) : Supplied s (startWork s) := by
  have hother {t : State} {w : Work} (hw : w ≠ .scanning) (ht : t.supply = { s.supply with scanning := decide (w = .scanning) }) :
      Supplied s t := by
    have hs : s.supply.scanning = decide (w = .scanning) := by
      rw [decide_eq_false hw]
      exact decide_eq_false (by rw [hidle]; nofun)
    exact Supplied.of_eq (by rw [ht, ← hs])
  unfold startWork
  split
  · exact hother (w := .flush) nofun rfl
  · split
    · rename_i hdue
      intro h
      exact ⟨h.offer, fun _ => h.scan (.inl hdue), (fun hx => nomatch hx.1), h.offered, h.waking, h.unbuilt, h.dark, h.gasp,
        h.window, h.stopped⟩
    · split
      · rename_i p it w rest _
        exact hother (w := .settings p it w) nofun rfl
      · rename_i o snap rest pos _ _
        exact hother (w := .entry pos s.engine.nextSeq o snap) nofun rfl
      · exact Supplied.refl s

theorem serve_supplied (s : State) : Supplied s (serve s) := by
  unfold serve
  refine Supplied.guarded fun h => startWork_supplied s ?_
  simp only [Bool.and_eq_true, beq_iff_eq] at h
  exact h.1.2

/-- Work other than a scan ends. -/
theorem idle_supplied {s t : State} (hw : s.engine.work ≠ .scanning)
    (ht : t.supply = { s.supply with scanning := false }) : Supplied s t := by
  have hs : s.supply.scanning = false := decide_eq_false hw
  exact Supplied.of_eq (by rw [ht, ← hs])

/-! ### Sensing -/

section Sensing

variable (s : State)

theorem deliver_supplied (src : Source) (inc : Nat) : Supplied s (deliver src inc s) := .of_steady (deliver_steady s src inc)

theorem doorToSched_supplied : Supplied s (doorToSched s) := Supplied.guarded fun _ => .of_steady (endOwn_steady s _)

theorem doorOpening_supplied (d : Door) : Supplied s (doorOpening d s) :=
  Supplied.guarded fun _ => (deliver_supplied s _ _).trans (doorToSched_supplied _)

theorem doorToRecord_supplied (d : Door) : Supplied s (doorToRecord d s) :=
  Supplied.ite (fun _ => (senseItem_supplied _ _ _).after (Supplied.of_eq rfl))
    fun _ => Supplied.ite (fun _ => Supplied.refl s) fun _ => Supplied.of_eq rfl

theorem doorChangeTo_supplied (d : Door) : Supplied s (doorChangeTo d s) :=
  (Supplied.of_steady (raiseBoth_steady _ _)).after
    ((doorToRecord_supplied _ d).after ((doorOpening_supplied _ d).after (Supplied.of_eq rfl)))

theorem catchUpDoor_supplied : Supplied s (catchUpDoor s) := by
  unfold catchUpDoor
  split
  · exact Supplied.refl s
  · exact Supplied.ite (fun _ => doorChangeTo_supplied s _) fun _ => Supplied.of_eq rfl

theorem acceptDoor_supplied (d : Door) : Supplied s (acceptDoor d s) := by
  unfold acceptDoor
  split
  · exact Supplied.ite (fun _ => (catchUpDoor_supplied _).after (Supplied.of_eq rfl)) fun _ => Supplied.of_eq rfl
  · exact Supplied.ite (fun _ => Supplied.refl s) fun _ => doorChangeTo_supplied s d

theorem closeBurst_supplied : Supplied s (closeBurst s) := by
  unfold closeBurst
  split
  · exact Supplied.refl s
  · exact (senseItem_supplied _ _ _).after (Supplied.of_eq rfl)

theorem quadToRefs_supplied (q : Quad) : Supplied s (quadToRefs q s) :=
  Supplied.ite (fun _ => Supplied.refl s) fun _ => Supplied.of_eq rfl

theorem quadStepTo_supplied (q : Quad) (d : Dir) : Supplied s (quadStepTo q d s) := by
  have hdeliver (src : Source) (u : State) (c : Prop) [Decidable c] (h : Supplied s u) :
      Supplied s (if c then deliver src 1 u else u) := h.trans (Supplied.guarded fun _ => deliver_supplied u src 1)
  have hmoved (u : State) (a : Option Dir) (b : Int) (h : Supplied s u) :
      Supplied s { u with sensing.prevDir := a, sensing.acc := b } := h.trans (Supplied.of_eq rfl)
  have hrecord (u : State) (h : Supplied s u) : Supplied s (quadToRefs q (if u.logger then stepToRecord d u else u)) :=
    (quadToRefs_supplied _ q).after (Supplied.after (Supplied.guarded fun _ => Supplied.of_eq rfl) h)
  unfold quadStepTo
  exact hrecord _ (hdeliver _ _ _ (hmoved _ _ _ (hdeliver _ _ _ (Supplied.of_eq rfl))))

theorem jumpToRecord_supplied : Supplied s (jumpToRecord s) := by
  have h := closeBurst_supplied s
  exact Supplied.ite (fun _ => h.trans ((senseItem_supplied _ _ _).after (Supplied.of_eq rfl))) fun _ => h

theorem quadJumpTo_supplied (q : Quad) : Supplied s (quadJumpTo q s) := by
  have h : Supplied s (quadToRefs q
      { s with sensing.quad := some q, sensing.quadFaults := min 255 (s.sensing.quadFaults + 1) }) :=
    (quadToRefs_supplied _ q).after (Supplied.of_eq rfl)
  exact Supplied.ite (fun _ => h.trans (jumpToRecord_supplied _)) fun _ => h

theorem catchUpQuad_supplied : Supplied s (catchUpQuad s) := by
  unfold catchUpQuad
  split
  · exact Supplied.refl s
  · dsimp only
    split
    · exact Supplied.of_eq rfl
    · split
      · exact Supplied.of_eq rfl
      · exact Supplied.of_eq rfl
      · exact (jumpToRecord_supplied _).after (Supplied.of_eq rfl)

theorem acceptQuad_supplied (q : Quad) : Supplied s (acceptQuad q s) := by
  unfold acceptQuad
  split
  · exact Supplied.ite (fun _ => (catchUpQuad_supplied _).after (Supplied.of_eq rfl)) fun _ => Supplied.of_eq rfl
  · split
    · exact Supplied.refl s
    · exact quadStepTo_supplied s _ _
    · exact quadJumpTo_supplied s _

theorem secondEnds_supplied (mv : Nat) (b : Bool) : Supplied s (secondEnds mv b s) := by
  have hheat (u : State) : Supplied u (heaterSecond u) := Supplied.guarded fun _ => deliver_supplied u _ _
  have htemp (u : State) : Supplied u (tempSecond u) := deliver_supplied u _ _
  have hdoor (u : State) : Supplied u (doorOpenSecond u) := Supplied.guarded fun _ => Supplied.of_eq rfl
  have h : Supplied s (if b then heaterSecond (tempSecond s) else tempSecond (heaterSecond s)) :=
    Supplied.ite (fun _ => (htemp s).trans (hheat _)) fun _ => (hheat s).trans (htemp _)
  exact (h.trans (hdoor _)).trans (Supplied.of_eq rfl)

theorem catchUpTemp_supplied : Supplied s (catchUpTemp s) := by
  have h : Supplied s (if s.sensing.fault && !s.sensing.faultAsLogger then senseItem .sensorFault none s else s) :=
    Supplied.guarded fun _ => senseItem_supplied s _ _
  unfold catchUpTemp
  dsimp only
  split
  · exact h
  · exact h.trans (Supplied.of_eq rfl)

theorem validConversion_supplied (t : Int) : Supplied s (validConversion t s) :=
  Supplied.trans (t := if s.sensing.fault then
      { s with panelAlerts := s.panelAlerts.faultCeases, driveAlerts := s.driveAlerts.faultCeases } else s)
    (Supplied.guarded fun _ => Supplied.of_eq rfl) (Supplied.of_eq rfl)

theorem faultEntry_supplied : Supplied s (faultEntry s) :=
  Supplied.ite (fun _ => (senseItem_supplied _ _ _).after (Supplied.of_eq rfl)) fun _ => Supplied.of_eq rfl

theorem conversion_supplied (code : BitVec 10) : Supplied s (conversion code s) :=
  Supplied.ite (fun _ => (validConversion_supplied _ _).after (Supplied.of_eq rfl)) fun _ =>
    Supplied.ite (fun _ => Supplied.of_eq rfl) fun _ => (faultEntry_supplied _).after (Supplied.of_eq rfl)

end Sensing

/-! ### The outage watch -/

section Watch

variable (s : State)

theorem watchEntry_supply : (watchEntry s).supply = s.supply := by
  unfold watchEntry
  split <;> rfl

theorem closeSeqBurst_supply : (closeSeqBurst s).supply = s.supply := by
  unfold closeSeqBurst
  split <;> rfl

theorem watchExit_supply : (watchExit s).supply = s.supply := by
  unfold watchExit
  split
  · exact closeSeqBurst_supply s
  all_goals rfl

theorem sampleBurst_supply (m : Option QuadMove) : (sampleBurst m s).supply = s.supply := by
  unfold sampleBurst
  split
  · exact closeSeqBurst_supply s
  · exact closeSeqBurst_supply s
  all_goals rfl

theorem sampleDoor_supply (d : Door) (n : Nat) : (sampleDoor d n s).supply = s.supply := by
  unfold sampleDoor
  dsimp only
  split <;> split <;> rfl

theorem sampleQuad_supply (m : Option QuadMove) (q : Quad) : (sampleQuad m q s).supply = s.supply := by
  unfold sampleQuad
  dsimp only
  split <;> rfl

theorem sampleTherm_supply (code : BitVec 10) : (sampleTherm code s).supply = s.supply := by
  unfold sampleTherm
  split
  · rfl
  · split <;> rfl

theorem sampleVbk_supply (mv : Nat) : (sampleVbk mv s).supply = s.supply := by
  unfold sampleVbk
  dsimp only
  split <;> rfl

theorem takeSample_supply (d : Door) (q : Quad) (code : BitVec 10) (mv : Nat) : (takeSample d q code mv s).supply = s.supply := by
  have h (a b : Bool) : (settlePace a b (sampleVbk (measuredMv mv) (sampleTherm code (sampleQuad (sampleMove s.refs q) q
      (sampleDoor d s.seq.interval (sampleBurst (sampleMove s.refs q) s)))))).supply = s.supply :=
    (sampleVbk_supply _ _).trans ((sampleTherm_supply _ _).trans ((sampleQuad_supply _ _ _).trans
      ((sampleDoor_supply _ _ _).trans (sampleBurst_supply s _))))
  have hflush (u : State) : (enterFlushing u).supply = u.supply := closeSeqBurst_supply u
  unfold takeSample
  dsimp only
  split
  · exact (hflush _).trans (h _ _)
  · exact h _ _

/-- The end of a flush ends no scan. -/
theorem endFlush_supply : (endFlush s).supply = s.supply := by
  unfold endFlush
  split
  · rfl
  · by_cases hw : s.engine.work = .flush
    · simp [State.supply, hw, State.mainRunning]
    · simp [State.supply, hw, State.mainRunning]

end Watch

/-! ### Evaluations and the supply -/

section Supply

variable (s : State)

/-- The start of an evaluation in RUN with a chain open. -/
theorem startEvaluation_sound (h : ({ s.supply with handover := .evaluating, scanDue := true } : SupplyView).Sound) :
    (startEvaluation s).supply.Sound := by
  refine (catchUpTemp_supplied _).after ((catchUpQuad_supplied _).after ((catchUpDoor_supplied _).after
    (Supplied.of_steady (idleSched_steady { s with
      handover := { s.handover with state := .evaluating, late := false }, plan := none, engine.scanDue := true })))) h

/-- A return with a chain open, from a mode other than RUN. -/
theorem returnWithChain_supplied (hr : s.mainRunning = true) (hm : s.mains.mode ≠ .run) (hc : s.outage.chainOpen = true) :
    Supplied s (returnWithChain s) := by
  intro h
  have hscan : s.supply.scanning = false := Bool.eq_false_iff.mpr fun hx => hm (h.scan (.inr hx)).1
  refine startEvaluation_sound _ ?_
  rw [watchExit_supply]
  exact {
    offer := fun _ => ⟨rfl, hc, rfl⟩
    scan := fun _ => ⟨rfl, rfl⟩
    once := fun hx => absurd (hscan.symm.trans hx.2) nofun
    offered := nofun
    waking := nofun
    unbuilt := fun _ => rfl
    dark := fun hx => hx.elim (fun hx => nomatch hx) fun hx => nomatch hx
    gasp := nofun
    window := fun hx => hx.elim (fun hx => nomatch hx) fun hx => nomatch hx
    stopped := fun hx => absurd (hr.symm.trans hx) nofun }

theorem makeLastGasp_supplied (hm : s.mains.mode = .fading) : Supplied s (makeLastGasp s) := by
  intro h
  have hv : (makeLastGasp s).supply = { s.supply with lastGasp := .requested, windowOpen := false } := by
    unfold makeLastGasp requestLastGasp
    split <;> rfl
  rw [hv]
  exact ⟨h.offer, h.scan, h.once, h.offered, h.waking, h.unbuilt, h.dark, nofun, fun _ => hm, h.stopped⟩

/-- FADING and HELD have a running main domain, a chain, and no hand-over. -/
theorem SupplyView.Sound.lost {v : SupplyView} (h : v.Sound) (hm : v.mode = .fading ∨ v.mode = .held) :
    v.running = true ∧ v.chainOpen = true ∧ v.handover = .closed ∧ v.scanDue = false ∧ v.scanning = false := by
  have hrun : v.mode ≠ .run := by rcases hm with h | h <;> rw [h] <;> nofun
  refine ⟨?_, (h.dark hm).2, ?_, ?_, ?_⟩
  · refine Bool.of_not_eq_false fun hr => ?_
    have hw := h.stopped hr
    rcases hm with hm | hm <;> exact nomatch hm.symm.trans hw
  · by_contra hne
    exact hrun (h.offer hne).1
  · exact Bool.eq_false_iff.mpr fun hx => hrun (h.scan (.inl hx)).1
  · exact Bool.eq_false_iff.mpr fun hx => hrun (h.scan (.inr hx)).1

/-- A return from FADING or HELD. -/
theorem returnFromLoss_supplied (hm : s.mains.mode = .fading ∨ s.mains.mode = .held) : Supplied s (returnWithChain s) := by
  intro h
  obtain ⟨hr, hc, -⟩ := h.lost hm
  exact returnWithChain_supplied s hr (by rcases hm with h | h <;> rw [h] <;> nofun) hc h

/-- FADING without a last gasp and a window. -/
theorem endGasp_supplied (hm : s.mains.mode = .fading) :
    Supplied s { s with mains := { s.mains with lastGasp := .none, window := none } } := fun h =>
  ⟨h.offer, h.scan, h.once, h.offered, h.waking, h.unbuilt, h.dark, nofun, fun _ => hm, h.stopped⟩

theorem endFading_supplied (hm : s.mains.mode = .fading) : Supplied s (endFading s) := by
  refine Supplied.ite (fun _ => (endGasp_supplied s hm).trans (returnFromLoss_supplied _ (.inl hm))) fun hq h => ?_
  obtain ⟨-, hc, hh, hd, hs⟩ := h.lost (.inl hm)
  exact {
    offer := fun hx => absurd hh hx
    scan := fun hx => hx.elim (fun hx => absurd (hd.symm.trans hx) nofun) fun hx => absurd (hs.symm.trans hx) nofun
    once := h.once
    offered := h.offered
    waking := nofun
    unbuilt := h.unbuilt
    dark := fun _ => h.dark (.inl hm)
    gasp := nofun
    window := fun hx => hx.elim (fun hx => nomatch hx) fun hx => absurd hx hq
    stopped := fun hx => absurd (h.stopped hx) (by rw [show s.supply.mode = _ from hm]; nofun) }

/-- A pending qualification of a FADING. -/
theorem pends_supplied (hm : s.mains.mode = .fading) : Supplied s { s with mains := { s.mains with qualPending := true } } :=
  fun h => ⟨h.offer, h.scan, h.once, h.offered, h.waking, h.unbuilt, h.dark, h.gasp, fun _ => hm, h.stopped⟩

theorem qualify_supplied (hr : s.mainRunning = true) : Supplied s (qualify s) := by
  unfold qualify
  split
  · rename_i hm
    refine Supplied.ite (fun hc => returnWithChain_supplied s hr (by rw [hm]; nofun) hc) fun _ h => ?_
    have hclosed : s.handover.state = .closed := by
      by_contra hne
      exact absurd (hm.symm.trans (h.offer hne).1) nofun
    have hscan : s.supply.scanning = false := Bool.eq_false_iff.mpr fun hx =>
      absurd (hm.symm.trans (h.scan (.inr hx)).1) nofun
    exact {
      offer := fun hx => absurd hclosed hx
      scan := fun _ => ⟨rfl, by show s.handover.state.offering = false; rw [hclosed]; rfl⟩
      once := fun hx => absurd (hscan.symm.trans hx.2) nofun
      offered := h.offered
      waking := nofun
      unbuilt := h.unbuilt
      dark := fun hx => hx.elim (fun hx => nomatch hx) fun hx => nomatch hx
      gasp := fun hx => absurd (hm.symm.trans (h.gasp hx).1) nofun
      window := fun hx => absurd (hm.symm.trans (h.window hx)) nofun
      stopped := fun hx => absurd (hr.symm.trans hx) nofun }
  · rename_i hm
    unfold qualifyFading
    split
    · exact (pends_supplied s hm).trans (makeLastGasp_supplied _ hm)
    · exact pends_supplied s hm
    · exact returnFromLoss_supplied s (.inl hm)
  · rename_i hm
    exact returnFromLoss_supplied s (.inr hm)
  · exact Supplied.refl s

theorem pulse_supplied (n : Nat) (hr : s.mainRunning = true) : Supplied s (pulse n s) :=
  Supplied.ite (fun _ => Supplied.of_eq rfl) fun _ =>
    Supplied.ite (fun _ => Supplied.after (qualify_supplied _ (by exact hr)) (Supplied.of_eq rfl)) fun _ => Supplied.of_eq rfl

theorem windowExpires_supplied (hm : s.mains.mode = .fading) : Supplied s (windowExpires s) := by
  unfold windowExpires
  split
  · exact makeLastGasp_supplied s hm
  · exact endFading_supplied s hm
  · rename_i hg
    exact fun h => ⟨h.offer, h.scan, h.once, h.offered, h.waking, h.unbuilt, h.dark,
      fun hx => absurd (hg.symm.trans hx) nofun, fun _ => hm, h.stopped⟩

/-! ### The loss sequence -/

theorem lossToHandOver_supply : (lossToHandOver s).supply = { s.supply with
    handover := .closed, built := s.built && decide (s.handover.state = .closed) } := by
  unfold lossToHandOver
  split
  · rename_i h
    simp [State.supply, h]
  · rename_i h
    simp [State.supply, h, State.mainRunning]

theorem abandonScan_supply : (abandonScan s).supply = { s.supply with scanDue := false, scanning := false } := by
  by_cases h : s.engine.work = .scanning
  · simp [State.supply, abandonScan, h, State.mainRunning]
  · simp [State.supply, abandonScan, h, State.mainRunning]

theorem lossToBurst_supply : (lossToBurst s).supply = s.supply := by
  unfold lossToBurst
  split <;> rfl

theorem lossToChain_supply : ∃ g, (lossToChain s).supply = { s.supply with chainOpen := true, lastGasp := g } := by
  unfold lossToChain
  split
  · rename_i h
    exact ⟨.none, by simp [State.supply, appendItem, h, State.mainRunning]⟩
  · exact ⟨.due, rfl⟩

/-- The state of the loss sequence before its window. -/
def lostBeforeWindow (s : State) : State :=
  let s1 := { s with
    mains := { s.mains with
      mode := .fading, lossTimer := max s.mains.lossTimer (s.settings.cfg 2 * 1000), qualPending := false }
    freeze.loss := true }
  let s5 := lossToBurst (idleSched (raiseBoth .mainsLoss (abandonScan (lossToHandOver s1))))
  watchEntry (lossToChain { s5 with engine.queue := [] })

theorem loss_eq : loss s = { lostBeforeWindow s with
    mains := { (lostBeforeWindow s).mains with window := some (s.settings.cfg 3) } } := rfl

theorem lostBeforeWindow_supply : ∃ g, (lostBeforeWindow s).supply = { s.supply with
    handover := .closed, mode := .fading, lastGasp := g, qualPending := false, chainOpen := true, loss := true, scanDue := false
    scanning := false, built := s.built && decide (s.handover.state = .closed) } := by
  unfold lostBeforeWindow
  dsimp only
  generalize hs1 : ({ s with
    mains := { s.mains with
      mode := .fading, lossTimer := max s.mains.lossTimer (s.settings.cfg 2 * 1000), qualPending := false }
    freeze := { s.freeze with loss := true } } : State) = s1
  generalize hs5 : lossToBurst (idleSched (raiseBoth .mainsLoss (abandonScan (lossToHandOver s1)))) = s5
  have h5 : s5.supply = { s1.supply with
      handover := .closed, built := s1.built && decide (s1.handover.state = .closed), scanDue := false, scanning := false } := by
    rw [← hs5, lossToBurst_supply, (idleSched_steady _).supply, (raiseBoth_steady _ _).supply, abandonScan_supply,
      lossToHandOver_supply]
  obtain ⟨g, hg⟩ := lossToChain_supply { s5 with engine := { s5.engine with queue := [] } }
  refine ⟨g, ?_⟩
  rw [watchEntry_supply, hg, show ({ s5 with engine := { s5.engine with queue := [] } } : State).supply = s5.supply from rfl, h5,
    ← hs1]
  rfl

theorem loss_supplied (hm : s.mains.mode = .run) : Supplied s (loss s) := by
  intro h
  obtain ⟨g, hg⟩ := lostBeforeWindow_supply s
  have hv : (loss s).supply = { (lostBeforeWindow s).supply with windowOpen := true } := by rw [loss_eq]; rfl
  rw [hv, hg]
  exact {
    offer := absurd rfl
    scan := fun hx => hx.elim (fun hx => nomatch hx) fun hx => nomatch hx
    once := fun hx => nomatch hx.1
    offered := nofun
    waking := nofun
    unbuilt := fun hb => by
      by_cases hc : s.handover.state = .closed
      · have hb' : (s.built && decide (s.handover.state = .closed)) = false := hb
        rw [decide_eq_true hc, Bool.and_true] at hb'
        exact h.unbuilt hb'
      · exact (h.offer hc).2.2
    dark := fun _ => ⟨rfl, rfl⟩
    gasp := fun _ => ⟨rfl, rfl⟩
    window := fun _ => rfl
    stopped := fun hx => absurd (hm.symm.trans (h.stopped hx)) nofun }

/-! ### Starts and ends of the domains -/

/-- A main domain at its start, with whatever chain and domains. -/
theorem SupplyView.Sound.started {v : SupplyView} (hh : v.handover = .closed) (hm : v.mode = .waking) (hg : v.lastGasp = .none)
    (hw : v.windowOpen = false) (hq : v.qualPending = false) (hr : v.ret = true) (hd : v.scanDue = false)
    (hs : v.scanning = false) (hb : v.built = false) : v.Sound where
  offer hx := absurd hh hx
  scan hx := hx.elim (fun hx => absurd (hd.symm.trans hx) nofun) fun hx => absurd (hs.symm.trans hx) nofun
  once hx := absurd (hd.symm.trans hx.1) nofun
  offered hx := by rw [hh] at hx; exact nomatch hx
  waking _ := hb
  unbuilt _ := hr
  dark hx := by rw [hm] at hx; exact hx.elim (fun hx => nomatch hx) fun hx => nomatch hx
  gasp hx := absurd (hg.symm.trans hx) nofun
  window hx := hx.elim (fun hx => absurd (hw.symm.trans hx) nofun) fun hx => absurd (hq.symm.trans hx) nofun
  stopped _ := hm

theorem mainStart_sound (mv : Nat) : (mainStart mv s).supply.Sound := by
  unfold mainStart
  dsimp only
  split <;> exact .started rfl rfl rfl rfl rfl rfl rfl rfl rfl

theorem collapse_sound (cut : CutStep) : (collapse cut s).supply.Sound := by
  unfold collapse
  generalize (if s.mainRunning then cutWrite cut s else s) = u
  dsimp only
  split
  · rw [watchEntry_supply]
    exact .started rfl rfl rfl rfl rfl rfl rfl rfl rfl
  · exact .started rfl rfl rfl rfl rfl rfl rfl rfl rfl

theorem assertReset_sound (cut : CutStep) : (assertReset cut s).supply.Sound := by
  unfold assertReset
  dsimp only
  split <;> exact .started rfl rfl rfl rfl rfl rfl rfl rfl rfl

/-- A backup domain that begins or ends while the main domain does not run. -/
theorem freshBackup_supplied (hv : s.vdd = false) (b : Bool) : Supplied s { freshBackup s with vbk := b } := by
  intro h
  have hm : s.mains.mode = .waking := h.stopped (by simp [State.supply, State.mainRunning, hv])
  have hne : s.mains.mode ≠ .run := by rw [hm]; nofun
  exact {
    offer := fun hx => absurd (h.offer hx).1 hne
    scan := h.scan
    once := h.once
    offered := h.offered
    waking := h.waking
    unbuilt := h.unbuilt
    dark := fun hx => by
      have hx : s.mains.mode = .fading ∨ s.mains.mode = .held := hx
      rw [hm] at hx
      exact hx.elim (fun hx => nomatch hx) fun hx => nomatch hx
    gasp := h.gasp
    window := h.window
    stopped := h.stopped }

/-! ### The store engine's ends -/

theorem raiseDone_steady (o : Origin) : Steady s (raiseDone o s) := by
  cases o with
  | panel => exact raiseOn_steady s _ _
  | drive => exact raiseOn_steady s _ _
  | _ => exact raiseBoth_steady s _

theorem commitEffects_supplied (o : Origin) : Supplied s (commitEffects o s) := by
  cases o with
  | tally => exact Supplied.of_eq rfl
  | lastgasp =>
    refine Supplied.ite (fun hm => endFading_supplied s hm) fun hm h => ?_
    exact ⟨h.offer, h.scan, h.once, h.offered, h.waking, h.unbuilt, h.dark, nofun, h.window, h.stopped⟩
  | _ => exact Supplied.refl s

theorem entryWork_supplied : Supplied s (entryWork s) := by
  unfold entryWork
  split
  · rename_i pos n o snap hw
    have h1 : Supplied s { s with journal := s.journal.set pos (committedSlot n o snap), engine.work := .idle } :=
      idle_supplied (by rw [hw]; nofun) rfl
    exact (serve_supplied _).after ((commitEffects_supplied _ o).after ((Supplied.of_steady (raiseDone_steady _ o)).after h1))
  · exact Supplied.refl s

theorem settingsWork_supplied (r : Word) : Supplied s (settingsWork r s) := by
  unfold settingsWork
  split
  · rename_i p it w hw
    refine (serve_supplied _).after ?_
    rw [settingsEnds_eq]
    refine idle_supplied (by rw [hw]; nofun) ?_
    cases p <;> rfl
  · exact Supplied.refl s

/-- The verdict of an evaluation on a built record. -/
theorem actOnVerdict_sound (v : Verdict) (h : s.supply.Sound) (he : s.handover.state ≠ .closed) (hb : s.built = true)
    (hd : s.supply.scanDue = false) (hs : s.supply.scanning = false) : (actOnVerdict v s).supply.Sound := by
  have hm := (h.offer he).1
  cases v with
  | none => exact close_supplied s hm hb h
  | ended => exact carryEnd_supplied s hm hb h
  | hold => exact h.offers he hd hs hb .offeredHold
  | auto =>
    have ho : ({ s with handover.state := .offeredAuto } : State).supply.Sound := h.offers he hd hs hb .offeredAuto
    exact Supplied.guarded (fun _ => recomputeAuto_supplied _ rfl) ho

/-- The agreement after a scan has ended. -/
theorem SupplyView.Sound.scanned {v : SupplyView} (h : v.Sound) : ({ v with scanning := false } : SupplyView).Sound :=
  ⟨h.offer, fun hx => hx.elim (fun hx => h.scan (.inl hx)) (fun hx => nomatch hx), (fun hx => nomatch hx.2), h.offered,
    h.waking, h.unbuilt, h.dark, h.gasp, h.window, h.stopped⟩

/-- The agreement after a build in RUN. -/
theorem SupplyView.Sound.builds {v : SupplyView} (h : v.Sound) (hm : v.mode = .run) : ({ v with built := true } : SupplyView).Sound :=
  ⟨h.offer, h.scan, h.once, fun _ => rfl, fun hx => absurd (hm.symm.trans hx) nofun, nofun, h.dark, h.gasp, h.window, h.stopped⟩

theorem adoption_supply (n : Option Word) : (adoption n s).supply = s.supply := by
  unfold adoption
  split <;> rfl

theorem evaluate_sound (k : Kept) (h : s.supply.Sound) (he : s.handover.state = .evaluating) (hd : s.supply.scanDue = false)
    (hs : s.supply.scanning = false) : (evaluate k s).supply.Sound := by
  have hm : s.mains.mode = .run := (h.offer (by rw [show s.supply.handover = _ from he]; nofun)).1
  have hview (pl : Plan) : (publish pl (build k.entry { adoption k.newest s with kept := some k })).supply =
      { s.supply with built := true } := by
    rw [← adoption_supply s k.newest]
    rfl
  unfold evaluate endEvaluation
  refine actOnVerdict_sound _ _ ?_ ?_ rfl ?_ ?_
  · rw [hview]
    exact h.builds hm
  · show (adoption k.newest s).handover.state ≠ .closed
    rw [adoption_handover, he]
    nofun
  · rw [hview]
    exact hd
  · rw [hview]
    exact hs

theorem scanRead_supply : (scanRead s).supply = { s.supply with scanning := false } := by
  unfold scanRead
  dsimp only
  split <;> rfl

theorem keyAtScan_supply (n : Option Word) : (keyAtScan n s).supply = s.supply := by
  unfold keyAtScan
  split <;> rfl

theorem scanEnds_supplied (hw : s.engine.work = .scanning) : Supplied s (scanEnds s) := by
  intro h
  obtain ⟨hm, hno⟩ := h.scan (.inr (decide_eq_true hw))
  have hd : s.engine.scanDue = false := Bool.eq_false_iff.mpr fun hx => h.once ⟨hx, decide_eq_true hw⟩
  rw [scanEnds_eq]
  generalize hu : keyAtScan _ (scanRead s) = u
  have hus : u.supply = { s.supply with scanning := false } := by rw [← hu, keyAtScan_supply, scanRead_supply]
  have hsound : u.supply.Sound := hus ▸ h.scanned
  have hhand : u.handover.state = s.handover.state := congrArg SupplyView.handover hus
  split
  · rename_i he
    refine evaluate_sound u _ hsound (hhand.trans he) ?_ ?_
    · rw [hus]
      exact hd
    · rw [hus]
  · rename_i he
    have hclosed : s.handover.state = .closed := by
      revert hno he
      show s.handover.state.offering = false → _
      cases s.handover.state <;> simp [HoState.offering]
    have hview : (buildWithoutChain (newestComplete s.journal) u).supply = { u.supply with built := true, ret := false } := rfl
    have hb := hsound.builds (show u.supply.mode = .run by rw [hus]; exact hm)
    rw [hview]
    exact ⟨fun hx => absurd (hhand.trans hclosed) hx, hb.scan, hb.once, hb.offered, hb.waking, nofun, hb.dark, hb.gasp, hb.window,
      hb.stopped⟩

/-! ### The scheduler's and the supervisor's events -/

theorem clockSecond_steady : Steady s (clockSecond s) :=
  Steady.trans (t := deliver .runSeconds 1 { s with lpr.phaseClock := min 65535 (s.lpr.phaseClock + 1), lpr.partMs := 0 })
    (Steady.trans (t := { s with lpr.phaseClock := min 65535 (s.lpr.phaseClock + 1), lpr.partMs := 0 })
      ⟨_, _, _, _, _, _, _, _, _, _, _, rfl⟩ (deliver_steady _ _ _))
    (Steady.ite (windowTest_steady _) (Steady.refl _))

theorem restOver_steady : Steady s (restOver s) := Steady.ite (endOwn_steady s _) (enterDue_steady s)

theorem missPulse_steady : Steady s (missPulse s) := by
  have h : Steady s { s with sched.missed := min 3 (s.sched.missed + 1) } := ⟨_, _, _, _, _, _, _, _, _, _, _, rfl⟩
  exact Steady.ite (h.trans (endOwn_steady _ _)) (h.trans (enterRest_steady _ _))

theorem completePulse_steady : Steady s (completePulse s) :=
  Steady.trans (t := { s with sched.pulsesDone := min 255 (s.sched.pulsesDone + 1) }) ⟨_, _, _, _, _, _, _, _, _, _, _, rfl⟩
    (enterRest_steady _ _)

theorem tick_supply : (tick s).supply = s.supply := by
  have hmain : (tickMain s).supply = s.supply := by
    rw [tickMain_eq]
    cases hr : s.mainRunning with
    | false => simp [State.supply, State.mainRunning]
    | true => cases hw : s.mains.window <;> simp [State.supply, State.mainRunning, Mains.tick, hw]
  have hback (u : State) : (tickBackup u).supply = u.supply := by
    rw [tickBackup_eq]
    rfl
  exact (hback _).trans hmain

/-! ### Frames -/

theorem setPort_supply (p : Port) (q : PortState) : (s.setPort p q).supply = s.supply := by
  cases p <;> rfl

theorem setAlerts_supply (p : Port) (a : Alerts) : (s.setAlerts p a).supply = s.supply := by
  cases p <;> rfl

theorem storeRunReq_supplied (r : RunReq) : Supplied s (storeRunReq r s) := by
  unfold storeRunReq suspendSched
  refine Supplied.ite (fun _ => Supplied.refl s) fun _ => Supplied.ite (fun _ => Supplied.of_eq rfl) fun _ => ?_
  exact Supplied.after (Supplied.guarded fun _ => (serve_supplied _).after (.of_steady (enterRest_steady _ _)))
    (Supplied.of_eq rfl)

theorem cancelProgramme_supplied : Supplied s (cancelProgramme s) :=
  Supplied.ite (fun _ => Supplied.of_eq rfl) fun _ => (serve_supplied _).after (.of_steady (changeToDone_steady s _))

theorem takeCheckpoint_supplied (p : Port) (hm : s.mayWrite p = true) : Supplied s (takeCheckpoint p s) := by
  refine Supplied.ite (fun _ => .of_steady (request_steady s _)) fun hr => makeLastGasp_supplied s ?_
  cases p with
  | panel => exact absurd hm hr
  | drive =>
    have h : s.lastGaspWrites = true := (Bool.or_eq_true_iff.mp hm).resolve_left hr
    simp only [State.lastGaspWrites, Bool.and_eq_true, beq_iff_eq] at h
    exact h.1

end Supply

section Frames

variable (p : Port) (cls : Code) (idx : Index) (data : Word) (s : State)

/-- Either reply. -/
theorem Supplied.reply {s : State} {c : Prop} [Decidable c] {a b : Reply} (ha : c → Supplied s a.st) (hb : ¬c → Supplied s b.st) :
    Supplied s (if c then a else b).st := by
  split
  · exact ha ‹_›
  · exact hb ‹_›

theorem answeredFree_supplied (r : Result) : Supplied s (answeredFree r s).st := Supplied.of_eq rfl

theorem liveWrite_supplied {owner : Port} {i : Nat} {free : Bool} {take : State → Reply} (ht : Supplied s (take s).st) :
    Supplied s (liveWrite owner p i free take s).st :=
  .reply (fun _ => answeredFree_supplied s _) fun _ => .reply (fun _ => .refl s) fun _ => .reply (fun _ => .refl s) fun _ => ht

theorem takeProgramme_supplied : Supplied s (takeProgramme data s).st := by
  unfold takeProgramme
  split <;> exact Supplied.of_eq rfl

theorem takeRunReq_supplied : Supplied s (takeRunReq data s).st := by
  refine .reply (fun _ => cancelProgramme_supplied s) fun _ => ?_
  split
  · exact storeRunReq_supplied s _
  · exact .refl s

theorem takePhase_supplied : Supplied s (takePhase data s).st := by
  unfold takePhase
  split
  · exact .reply (fun _ => (serve_supplied _).after (.of_steady (changePhase_steady s _))) fun _ => .refl s
  · exact .refl s

theorem dealWriteLive_supplied (i : Nat) : Supplied s (dealWriteLive p i data s).st := by
  unfold dealWriteLive
  split
  · exact liveWrite_supplied p s (takeProgramme_supplied data s)
  · exact liveWrite_supplied p s (.reply (fun _ => .of_eq rfl) fun _ => .refl s)
  · exact liveWrite_supplied p s (takeRunReq_supplied data s)
  · exact liveWrite_supplied p s (takePhase_supplied data s)
  · exact liveWrite_supplied p s (.of_eq rfl)
  · exact .reply (fun _ => .refl s) fun _ => .reply (fun _ => answeredFree_supplied s _) fun _ =>
      .reply (fun _ => answeredFree_supplied s _) fun _ => .refl s

theorem dealWriteTally_supplied (i : Nat) : Supplied s (dealWriteTally p i data s).st := by
  have hvalue (t : Fin 6) (high : Bool) : Supplied s (dealTallyValue p t high data s).st :=
    .reply (fun _ => .refl s) fun _ => .reply (fun _ => .refl s) fun _ => .reply (fun _ => .refl s) fun _ =>
      .reply (fun _ => .of_eq rfl) fun _ => .of_eq rfl
  have hflag (t : Fin 6) : Supplied s (dealOverflow p t data s).st :=
    .reply (fun _ => .refl s) fun _ => .reply (fun _ => .refl s) fun _ => .reply (fun _ => .refl s) fun _ => .of_eq rfl
  unfold dealWriteTally
  split
  · exact hvalue _ _
  · exact hvalue _ _
  · exact hflag _
  · exact .refl s
  · exact .refl s

theorem refusedSetting_supplied (it : Item) (r : Result) : Supplied s (refusedSetting it r s).st := by
  unfold refusedSetting
  split
  · exact .reply (fun _ => .refl s) fun _ => answeredFree_supplied s _
  · exact .refl s

theorem dealSettingAt_supplied (it : Option Item) : Supplied s (dealSettingAt p it data s).st := by
  cases it with
  | none => exact .refl s
  | some it =>
    refine .reply (fun _ => refusedSetting_supplied s it _) fun _ => .reply (fun _ => refusedSetting_supplied s it _) fun _ => ?_
    split
    · exact refusedSetting_supplied s it _
    · exact .reply (fun _ => (serve_supplied _).after (.of_eq rfl)) fun _ => refusedSetting_supplied s it _

theorem dealAlertLevel_supplied (i : Nat) : Supplied s (dealAlertLevel p i data s).st := by
  unfold dealAlertLevel
  split
  · exact .of_eq (setAlerts_supply s p _)
  · exact .refl s

theorem dealWrite_supplied : Supplied s (dealWrite p cls idx data s).st := by
  unfold dealWrite
  split
  · exact dealWriteLive_supplied p data s _
  · exact dealWriteTally_supplied p data s _
  · exact dealSettingAt_supplied p data s _
  · exact dealAlertLevel_supplied p data s _
  · exact dealSettingAt_supplied p data s _
  · exact dealSettingAt_supplied p data s _
  · exact dealSettingAt_supplied p data s _
  all_goals exact .refl s

theorem dealNop_supplied : Supplied s (dealNop p s).st := by
  unfold dealNop
  split
  · exact .refl s
  · exact .reply (fun _ => .refl s) fun _ => .refl s

theorem dealRead_supplied : Supplied s (dealRead p cls idx data s).st := by
  show Supplied s (afterRead s p cls idx)
  unfold afterRead
  split
  · exact .of_eq (setPort_supply s p _)
  · exact .refl s

theorem dealCheckpoint_supplied : Supplied s (dealCheckpoint p cls s).st :=
  .reply (fun _ => .refl s) fun _ => .reply (fun _ => .refl s) fun _ => .reply (fun _ => .refl s) fun hm =>
    .reply (fun _ => .refl s) fun _ => (serve_supplied _).after (takeCheckpoint_supplied s p (Bool.of_not_eq_false hm))

theorem dealTakeAlert_supplied : Supplied s (dealTakeAlert p cls s).st := by
  refine .reply (fun _ => .refl s) fun _ => ?_
  split
  · exact .refl s
  · exact .of_eq (setAlerts_supply s p _)

theorem dealConfirm_supplied : Supplied s (dealConfirm p cls s).st :=
  .reply (fun _ => .refl s) fun _ => .reply (fun _ => .refl s) fun _ => .reply (fun _ => .refl s) fun h =>
    (serve_supplied _).after (recomputeConfirm_supplied s (by rw [not_not.mp h]; rfl))

theorem dealAccept_supplied : Supplied s (dealAccept p cls data s).st := by
  refine .reply (fun _ => .refl s) fun _ => .reply (fun _ => .refl s) fun _ => .reply (fun _ => .refl s) fun h => ?_
  split
  · exact .refl s
  · refine .reply (fun _ => .refl s) fun _ => (serve_supplied _).after (close_apply_supplied s ?_ _)
    by_cases ha : s.handover.state = .offeredAuto
    · rw [ha]; rfl
    · rw [not_not.mp fun hc => h ⟨ha, hc⟩]; rfl

theorem dealDecline_supplied : Supplied s (dealDecline p cls s).st :=
  .reply (fun _ => .refl s) fun _ => .reply (fun _ => .refl s) fun _ => .reply (fun _ => .refl s) fun h =>
    (serve_supplied _).after (carryEnd_offered s (Bool.of_not_eq_false h))

theorem dealMonitor_supplied : Supplied s (dealMonitor p cls data s).st := by
  refine .reply (fun _ => .refl s) fun _ => ?_
  split
  · exact .of_eq (setPort_supply s p _)
  · exact .refl s

theorem dealTumbleAck_supplied : Supplied s (dealTumbleAck p cls s).st :=
  .reply (fun _ => .refl s) fun _ => .reply (fun _ => .refl s) fun _ => .reply (fun _ => .refl s) fun _ =>
    (serve_supplied _).after (.of_steady (acknowledge_steady s))

theorem dealFrame_supplied (w : Frame) : Supplied s (dealFrame p w s).st := by
  unfold dealFrame
  dsimp only
  split
  · exact dealNop_supplied p s
  · exact dealRead_supplied p _ _ _ s
  · exact dealWrite_supplied p _ _ _ s
  · exact dealCheckpoint_supplied p _ s
  · exact dealTakeAlert_supplied p _ s
  · exact .reply (fun _ => .refl s) fun _ => .of_eq (setAlerts_supply s p _)
  · exact dealConfirm_supplied p _ s
  · exact dealAccept_supplied p _ _ s
  · exact dealDecline_supplied p _ s
  · exact .reply (fun _ => .refl s) fun _ => .of_eq (by cases p <;> rfl)
  · exact .reply (fun _ => .refl s) fun _ => .of_eq (by cases p <;> rfl)
  · exact dealMonitor_supplied p _ _ s
  · exact dealTumbleAck_supplied p _ s
  · exact .refl s

theorem receiveFrame_supplied (w : Frame) : Supplied s (receiveFrame p w s) :=
  have hport (u : State) (q : PortState) : Supplied u (u.setPort p q) := .of_eq (setPort_supply u p q)
  .ite (fun _ => .ite (fun _ => .ite (fun _ => hport s _) fun _ =>
    (hport _ _).after ((dealFrame_supplied p _ w).after (hport s _))) fun _ => hport s _) fun _ => .refl s

theorem gapIn_supplied (bits : Nat) : Supplied s (gapIn p bits s) :=
  .guarded fun _ => .ite (fun _ => Supplied.after (.of_steady (raiseOn_steady _ _ _)) (.of_eq (setPort_supply s p _)))
    fun _ => .of_eq (setPort_supply s p _)

end Frames

/-! ### Every command -/

theorem exec_supplied (c : Instr) (s t : State) (h : exec c s = .next t) : Supplied s t := by
  have hserved {c : Prop} [Decidable c] {u : State} (hu : c → Supplied s u) : Supplied s (if c then serve u else s) :=
    .guarded fun hc => (serve_supplied _).after (hu hc)
  cases hf : c.frame with
  | some pw =>
    obtain ⟨p, w⟩ := pw
    cases (exec_of_frame s hf).symm.trans h
    exact receiveFrame_supplied p s w
  | none =>
    cases c with
    | frameGap p bits => cases h; exact gapIn_supplied p s bits
    | zeroCrossPulse a => cases h; exact hserved (pulse_supplied s a)
    | lossDeclaration => cases h; exact hserved fun hc => loss_supplied s hc.2
    | qualificationWithdrawn =>
      cases h
      exact .guarded fun hc hs => ⟨hs.offer, hs.scan, hs.once, hs.offered, hs.waking, hs.unbuilt, hs.dark, hs.gasp,
        fun _ => hc.2.1, hs.stopped⟩
    | lastGaspWindowExpiry => cases h; exact hserved fun hc => windowExpires_supplied s hc.2.1
    | rstnAssertion cut => cases h; exact .guarded fun _ _ => assertReset_sound s cut
    | rstnRelease mv => cases h; exact .guarded fun _ _ => mainStart_sound _ mv
    | coldStart mv => cases h; exact .guarded fun _ _ => mainStart_sound _ mv
    | backupOnlyStart => cases h; exact .guarded fun hc => freshBackup_supplied s hc.1 true
    | warmReturn mv => cases h; exact .guarded fun _ _ => mainStart_sound _ mv
    | vddCollapse cut => cases h; exact .guarded fun _ _ => collapse_sound s cut
    | vbkLoss => cases h; exact .guarded fun hc => freshBackup_supplied s hc.1 false
    | doorFirstAdoption o => cases h; exact hserved fun _ => acceptDoor_supplied s _
    | doorChange o => cases h; exact hserved fun _ => acceptDoor_supplied s _
    | quadFirstAdoption q => cases h; exact hserved fun _ => acceptQuad_supplied s q
    | quadStep q => cases h; exact hserved fun _ => acceptQuad_supplied s q
    | quadIllegalJump q => cases h; exact hserved fun _ => acceptQuad_supplied s q
    | drumBurstClose => cases h; exact hserved fun _ => closeBurst_supplied s
    | htsSample high => cases h; exact .guarded fun _ => .of_eq rfl
    | mismatchTimerExpiry => cases h; exact .guarded fun _ => .of_eq rfl
    | mainSecond mv b => cases h; exact hserved fun _ => secondEnds_supplied s mv b
    | thermistorConversion code => cases h; exact hserved fun _ => conversion_supplied s code
    | phaseClockSecond => cases h; exact hserved fun _ => .of_steady (clockSecond_steady s)
    | restExpiry => cases h; exact hserved fun _ => .of_steady (restOver_steady s)
    | tumbleAckTimeout => cases h; exact hserved fun _ => .of_steady (missPulse_steady s)
    | tumbleComplete => cases h; exact hserved fun _ => .of_steady (completePulse_steady s)
    | recoveryEnd => cases h; exact hserved fun _ => .of_steady (enterRest_steady s _)
    | entryCommit => cases h; exact .guarded fun _ => entryWork_supplied s
    | settingsWriteComplete r => cases h; exact .guarded fun _ => settingsWork_supplied s r
    | scanComplete => cases h; exact hserved fun hc => scanEnds_supplied s hc.2
    | sample o q code mv => cases h; exact hserved fun _ => .of_eq (takeSample_supply s _ q code mv)
    | flushComplete => cases h; exact hserved fun _ => .of_eq (endFlush_supply s)
    | outageTimerSecond => cases h; exact .guarded fun _ => .of_eq rfl
    | _ => exact nomatch hf

theorem step_supplied {s t : State} (h : step s = .next t) : Supplied s t := by
  unfold step at h
  split at h
  · cases h
    exact .of_eq (tick_supply s)
  · exact (exec_supplied _ _ t h).after (.of_eq rfl)

/-- Settles O14: every command keeps the agreement of the values read. -/
theorem supplyStaysSound : Obligations.SupplyStaysSound := fun s t hs h =>
  (supplySound_iff t).mpr (step_supplied h ((supplySound_iff s).mp hs))

end Sys2Proof.Machine
end

section
/-! PROOFS. The engine's next work (spec section 3.2; O40), the scheduler's expiries (section 9.3; O49) and a counted second of the
phase clock (section 1.7; O50). -/

set_option Elab.async false

namespace Sys2Proof.Machine

/-! ### The engine's next work -/

section Engine

variable {s : State}

theorem serve_busy (h : s.mainRunning = false ∨ s.engine.work ≠ .idle ∨ s.seq.backupFlush = true) : serve s = s := by
  refine if_neg fun hg => ?_
  simp only [Bool.and_eq_true, beq_iff_eq, Bool.not_eq_true'] at hg
  obtain ⟨⟨hr, hw⟩, hb⟩ := hg
  rcases h with h | h | h
  · exact absurd (hr.symm.trans h) nofun
  · exact h hw
  · exact absurd (hb.symm.trans h) nofun

theorem serve_idle (hr : s.mainRunning = true) (hw : s.engine.work = .idle) (hb : s.seq.backupFlush = false) :
    serve s = startWork s := by
  refine if_pos ?_
  simp only [hr, hw, hb, beq_self_eq_true, Bool.not_false, Bool.and_self]

theorem startWork_flush (h : s.seq.flushCopy.isSome = true) : startWork s = { s with engine.work := .flush } := if_pos h

theorem startWork_scan (hf : s.seq.flushCopy = none) (h : s.engine.scanDue = true) :
    startWork s = { s with engine.work := .scanning, engine.scanDue := false } := by
  unfold startWork
  rw [if_neg (by rw [hf]; exact nofun), if_pos h]

/-- Without a flush and a scan the queue's head comes next. -/
theorem startWork_queue (hf : s.seq.flushCopy = none) (h : s.engine.scanDue = false) :
    startWork s = match s.engine.queue, s.engine.writePos with
      | .settings p it w :: rest, _ => { s with engine.work := .settings p it w, engine.queue := rest }
      | .journal o snap :: rest, some pos => startEntry o snap rest pos s
      | _, _ => s :=
  (if_neg (by rw [hf]; exact nofun)).trans (if_neg (by rw [h]; exact nofun))

theorem startWork_empty (hf : s.seq.flushCopy = none) (h : s.engine.scanDue = false) (hq : s.engine.queue = []) :
    startWork s = s := by
  rw [startWork_queue hf h, hq]

theorem startWork_settings {p : Port} {it : Item} {w : Word} {rest : List Request} (hf : s.seq.flushCopy = none)
    (h : s.engine.scanDue = false) (hq : s.engine.queue = .settings p it w :: rest) :
    startWork s = { s with engine := { s.engine with work := .settings p it w, queue := rest } } := by
  rw [startWork_queue hf h, hq]

theorem startWork_entry {o : Origin} {b : Snapshot} {rest : List Request} {pos : Fin 16} (hf : s.seq.flushCopy = none)
    (h : s.engine.scanDue = false) (hq : s.engine.queue = .journal o b :: rest) (hp : s.engine.writePos = some pos) :
    startWork s = startEntry o b rest pos s := by
  rw [startWork_queue hf h, hq, hp]

theorem startWork_waits {o : Origin} {b : Snapshot} {rest : List Request} (hf : s.seq.flushCopy = none)
    (h : s.engine.scanDue = false) (hq : s.engine.queue = .journal o b :: rest) (hp : s.engine.writePos = none) :
    startWork s = s := by
  rw [startWork_queue hf h, hq, hp]

end Engine

/-- Settles O40: the guard of `serve`, then one lemma per kind of work. -/
theorem serveTakesTheNextWork : Obligations.ServeTakesTheNextWork := by
  intro s
  refine ⟨serve_busy, fun hr hw hb => ?_⟩
  rw [serve_idle hr hw hb]
  refine ⟨startWork_flush, startWork_scan, startWork_empty, fun _ _ _ _ => startWork_settings, ?_,
    fun _ _ _ => startWork_waits⟩
  intro o b rest pos hf hd hq hp
  exact ⟨s.engine.nextSeq, rfl, startWork_entry hf hd hq hp⟩

/-! ### The scheduler's expiries -/

section Scheduler

variable {s : State}

theorem schedIn_of {st : SchedState} (hr : s.mainRunning = true) (ht : s.schedRuns = true) (h : s.sched.state = st) :
    s.schedIn st = true := by
  unfold State.schedIn
  rw [hr, ht, h]
  exact beq_self_eq_true st

theorem restOver_due (h : s.lpr.phaseClock < s.sched.windowEnd) : restOver s = enterDue s := if_neg (Nat.not_le.mpr h)

theorem restOver_ended (h : s.sched.windowEnd ≤ s.lpr.phaseClock) : schedulerEnded .window s (restOver s) := by
  unfold restOver
  rw [if_pos h]
  exact endOwn_ended s .window

theorem missPulse_rested (h : s.sched.missed < 2) : restedOrEnded (s.sched.period * 1000)
    { s with sched := { s.sched with missed := s.sched.missed + 1 } } (missPulse s) := by
  have hn : min 3 (s.sched.missed + 1) = s.sched.missed + 1 := Nat.min_eq_right (by omega)
  unfold missPulse
  dsimp only
  rw [if_neg (by omega), hn]
  exact enterRest_rested _ _

theorem missPulse_ended (h : 2 ≤ s.sched.missed) :
    schedulerEnded .noDrive { s with sched := { s.sched with missed := 3 } } (missPulse s) := by
  have hn : min 3 (s.sched.missed + 1) = 3 := Nat.min_eq_left (by omega)
  unfold missPulse
  dsimp only
  rw [hn, if_pos rfl]
  exact endOwn_ended _ _

end Scheduler

/-- Settles O49: one lemma for what each expiry does. -/
theorem schedulerExpiries : Obligations.SchedulerExpiries := by
  intro s hr ht
  have hexec {st : SchedState} {a : State} (h : s.sched.state = st) :
      (.next (if s.schedIn st then a else s) : Out) = .next a :=
    congrArg _ (if_pos (schedIn_of hr ht h))
  refine ⟨fun h hw => ?_, fun h hw => ⟨_, restOver_ended hw, hexec h⟩, fun h hm => ⟨_, missPulse_rested hm, hexec h⟩,
    fun h hm => ⟨_, missPulse_ended hm, hexec h⟩, fun h => ⟨_, enterRest_rested _ _, hexec h⟩,
    fun h => ⟨_, enterRest_rested _ _, hexec h⟩⟩
  have hd := restOver_due hw
  refine (hexec h).trans ?_
  rw [hd]
  rfl

/-! ### A counted second of the phase clock -/

/-- Settles O50: an occurrence leaves the record and the scheduler alone, so that the window test sees the clock just counted. -/
theorem phaseClockCounts : Obligations.PhaseClockCounts := by
  intro s v hr hc hv
  have hlpr : v.lpr = { s.lpr with phaseClock := min 65535 (s.lpr.phaseClock + 1), partMs := 0 } := by
    obtain ⟨_, _, _, _, _, h, -⟩ := deliver_eq .runSeconds 1
      { s with lpr := { s.lpr with phaseClock := min 65535 (s.lpr.phaseClock + 1), partMs := 0 } }
    rw [hv, h]
  have hsched : v.sched = s.sched := by
    rw [hv]
    exact deliver_sched _ _ _
  have hclock : v.lpr.phaseClock = min 65535 (s.lpr.phaseClock + 1) := by rw [hlpr]
  have hexec : exec .phaseClockSecond s = .next (serve (secondTest v)) := by
    rw [hv]
    exact congrArg _ (if_pos ⟨hr, hc⟩)
  rw [hexec]
  unfold secondTest windowTest
  rw [hsched, hclock]
  refine ⟨hlpr, rfl, fun h => ⟨endOwn .window v, endOwn_ended v .window, ?_⟩, fun h => ?_⟩
  · rw [if_pos h.1, if_pos h.2]
  · by_cases hs : s.sched.state = .resting ∨ s.sched.state = .due
    · rw [if_pos hs, if_neg fun hw => h ⟨hs, hw⟩]
    · rw [if_neg hs]

end Sys2Proof.Machine
end

section
/-! PROOFS. The start of an evaluation (spec sections 4.7, 5.6, 8.2): what a return of mains leaves, and what it cannot move. -/

set_option Elab.async false

namespace Sys2Proof.Machine

/-! ### Items that stay in the log -/

/-- The log of `o` begins with `p` and then the item `x`, which no later DRUM_MOVE replaces. -/
def Logged (p : List LogItem) (x : LogItem) (o : Outage) : Prop := x.kind ≠ .drumMove ∧ p ++ [x] <+: o.log

theorem offerItem_prefix {k : ItemKind} {t : Nat} {a : Option Nat} {p l : List LogItem} {x : LogItem} (hx : x.kind ≠ .drumMove)
    (h : p ++ [x] <+: l) : p ++ [x] <+: (offerItem k t a l).1 := by
  unfold offerItem
  split
  case isTrue => exact h.trans (List.prefix_append _ _)
  case isFalse =>
    split
    case h_2 => exact h
    case h_1 last hlast =>
      split
      case isFalse => exact h
      case isTrue hk =>
        obtain ⟨m, rfl⟩ := h
        have hm : m ≠ [] := by
          rintro rfl
          have : x = last := by simpa using hlast
          exact hx (this ▸ hk.2)
        rw [List.dropLast_append_of_ne_nil hm]
        rw [List.append_assoc]
        exact List.prefix_append _ _

theorem appendItem_logged {p : List LogItem} {x : LogItem} {s : State} (k : ItemKind) (a : Option Nat)
    (h : Logged p x s.outage) : Logged p x (appendItem k a s).outage :=
  ⟨h.1, offerItem_prefix h.1 h.2⟩

/-! ### Sensing's acts in an evaluation that waits for its scan -/

/-- `t` is `s` but for sensing, the references, the alerts and the outage record, whose log keeps what it holds. -/
def CaughtUp (s t : State) : Prop :=
  ∃ pa da sn rf o, t = { s with panelAlerts := pa, driveAlerts := da, sensing := sn, refs := rf, outage := o }
    ∧ ∀ p x, Logged p x s.outage → Logged p x o

namespace CaughtUp

variable {s t u : State}

theorem refl (s : State) : CaughtUp s s := ⟨_, _, _, _, _, rfl, fun _ _ h => h⟩

theorem trans (h : CaughtUp s t) (k : CaughtUp t u) : CaughtUp s u := by
  obtain ⟨_, _, _, _, _, rfl, hl⟩ := h
  obtain ⟨_, _, _, _, _, rfl, kl⟩ := k
  exact ⟨_, _, _, _, _, rfl, fun p x hp => kl p x (hl p x hp)⟩

theorem guarded {c : Prop} [Decidable c] {a : State} (h : c → CaughtUp s a) : CaughtUp s (if c then a else s) := by
  split
  · exact h ‹_›
  · exact refl s

/-- Sensing, the references and the alerts move, and the outage record but for its log. -/
theorem moved (s : State) (pa da : Alerts) (sn : Sensing) (rf : Refs) (m : Summary) : CaughtUp s
    { s with panelAlerts := pa, driveAlerts := da, sensing := sn, refs := rf, outage := { s.outage with summary := m } } :=
  ⟨_, _, _, _, _, rfl, fun _ _ h => h⟩

end CaughtUp

/-- An evaluation that waits for its scan: no item reaches the hand-over, no occurrence the tallies, no change the scheduler. -/
structure Waiting (s : State) : Prop where
  evaluating : s.handover.state = .evaluating
  scanDue : s.engine.scanDue = true
  ret : s.freeze.ret = true
  untimed : s.sched.state.timed = false

theorem CaughtUp.waiting {s t : State} (h : CaughtUp s t) (hs : Waiting s) : Waiting t := by
  obtain ⟨_, _, _, _, _, rfl, -⟩ := h
  exact ⟨hs.evaluating, hs.scanDue, hs.ret, hs.untimed⟩

section Waiting

variable {s : State}

theorem Freeze.any_of_ret {f : Freeze} (h : f.ret = true) : f.any = true := by
  unfold Freeze.any
  rw [h]
  simp only [Bool.or_true]

theorem Waiting.newLogItem_eq (h : Waiting s) (k : ItemKind) : newLogItem k s = s := by
  rw [newLogItem_evaluating h.evaluating]
  refine if_neg fun hi => ?_
  exact absurd (h.scanDue.symm.trans ((inputsTaken_iff h.evaluating).mp hi).1) nofun

theorem appendItem_caughtUp (k : ItemKind) (a : Option Nat) (s : State) : CaughtUp s (appendItem k a s) :=
  ⟨_, _, _, _, _, rfl, fun _ _ => appendItem_logged k a⟩

theorem senseItem_caughtUp (h : Waiting s) (k : ItemKind) (a : Option Nat) : CaughtUp s (senseItem k a s) := by
  have ha := appendItem_caughtUp k a s
  unfold senseItem
  rw [(ha.waiting h).newLogItem_eq]
  exact ha

/-- As `senseItem_caughtUp`, after other moves. -/
theorem CaughtUp.item {t : State} (h : CaughtUp s t) (hs : Waiting s) (k : ItemKind) (a : Option Nat) :
    CaughtUp s (senseItem k a t) := h.trans (senseItem_caughtUp (h.waiting hs) k a)

theorem doorOpening_waiting (h : Waiting s) (d : Door) : doorOpening d s = s := by
  unfold doorOpening
  split
  case isFalse => rfl
  case isTrue =>
    rw [deliver_frozen (Freeze.any_of_ret h.ret)]
    exact if_neg (by rw [h.untimed]; exact nofun)

theorem doorToRecord_caughtUp (h : Waiting s) (d : Door) : CaughtUp s (doorToRecord d s) := by
  unfold doorToRecord
  split
  · exact (CaughtUp.moved s _ _ _ _ _).item h _ none
  · split
    · exact CaughtUp.refl s
    · exact CaughtUp.moved s _ _ _ _ _

theorem doorChangeTo_caughtUp (h : Waiting s) (d : Door) : CaughtUp s (doorChangeTo d s) := by
  have hm : CaughtUp s { s with sensing.door := some d } := CaughtUp.moved s _ _ _ _ _
  unfold doorChangeTo
  rw [doorOpening_waiting (hm.waiting h)]
  exact (hm.trans (doorToRecord_caughtUp (hm.waiting h) d)).trans (CaughtUp.moved _ _ _ _ _ _)

theorem catchUpDoor_keepsLog (h : Waiting s) : CaughtUp s (catchUpDoor s) := by
  unfold catchUpDoor
  split
  · exact CaughtUp.refl s
  · split
    · exact doorChangeTo_caughtUp h _
    · exact CaughtUp.moved s _ _ _ _ _

theorem closeBurst_caughtUp (h : Waiting s) : CaughtUp s (closeBurst s) := by
  unfold closeBurst
  split
  · exact CaughtUp.refl s
  · exact (CaughtUp.moved s _ _ _ _ _).item h _ _

theorem jumpToRecord_caughtUp (h : Waiting s) : CaughtUp s (jumpToRecord s) := by
  have hb := closeBurst_caughtUp h
  unfold jumpToRecord
  dsimp only
  split
  · exact (hb.trans (CaughtUp.moved _ _ _ _ _ _)).item h _ none
  · exact hb

theorem catchUpQuad_keepsLog (h : Waiting s) : CaughtUp s (catchUpQuad s) := by
  unfold catchUpQuad
  split
  · exact CaughtUp.refl s
  · rename_i q _
    have hm : CaughtUp s { s with refs.quad := some q } := CaughtUp.moved s _ _ _ _ _
    dsimp only
    split
    · exact hm
    · split
      · exact hm
      · exact hm.trans (CaughtUp.moved _ _ _ _ _ _)
      · exact hm.trans (jumpToRecord_caughtUp (hm.waiting h))

theorem catchUpTemp_keepsLog (h : Waiting s) : CaughtUp s (catchUpTemp s) := by
  have hf : CaughtUp s (if s.sensing.fault && !s.sensing.faultAsLogger then senseItem .sensorFault none s else s) :=
    CaughtUp.guarded fun _ => senseItem_caughtUp h _ _
  unfold catchUpTemp
  dsimp only
  split
  · exact hf
  · exact hf.trans (CaughtUp.moved _ _ _ _ _ _)

end Waiting

/-! ### The return of mains -/

/-- The state in which the catch-up begins. -/
def evaluationAt (s : State) : State := idleSched { s with
  handover := { s.handover with state := .evaluating, late := false }, plan := none, engine.scanDue := true }

theorem idleSched_untimed (s : State) : (idleSched s).sched.state.timed = false := by
  unfold idleSched
  split
  · rfl
  · rename_i h
    exact Bool.eq_false_iff.mpr h

/-- Idling the scheduler moves nothing else. -/
theorem idleSched_eq (s : State) : ∃ sc, idleSched s = { s with sched := sc } := by
  unfold idleSched
  split <;> exact ⟨_, rfl⟩

theorem evaluationAt_waiting (s : State) (h : s.freeze.ret = true) : Waiting (evaluationAt s) := by
  have hu := idleSched_untimed { s with
    handover := { s.handover with state := .evaluating, late := false }, plan := none, engine.scanDue := true }
  obtain ⟨_, he⟩ := idleSched_eq { s with
    handover := { s.handover with state := .evaluating, late := false }, plan := none, engine.scanDue := true }
  unfold evaluationAt
  rw [he] at hu ⊢
  exact ⟨rfl, rfl, h, hu⟩

theorem startEvaluation_caughtUp (s : State) (h : s.freeze.ret = true) : CaughtUp (evaluationAt s) (startEvaluation s) := by
  have hw := evaluationAt_waiting s h
  have hd := catchUpDoor_keepsLog hw
  have hq := hd.trans (catchUpQuad_keepsLog (hd.waiting hw))
  exact hq.trans (catchUpTemp_keepsLog (hq.waiting hw))

theorem appendItem_new (s : State) (k : ItemKind) (a : Option Nat) (h : s.outage.log.length < 24) :
    (appendItem k a s).outage.log = s.outage.log ++ [⟨k, s.outage.summary.duration, a⟩] := by
  obtain ⟨o, ht, he⟩ := appendItem_taken s k a
  rw [he, ht.1 h]

/-- Leaving the watch moves the outage record and the sequencer alone; without an open burst and below 24 items the MAINS_RETURN
item joins the log. -/
theorem watchExit_eq (s : State) : ∃ o sq, watchExit s = { s with outage := o, seq := sq } ∧ sq.state ≠ .watch
    ∧ (s.seq.burst = none → s.outage.log.length < 24 →
      Logged s.outage.log ⟨.mainsReturn, s.outage.summary.duration, none⟩ o) := by
  have hnew (h : s.outage.log.length < 24) : Logged s.outage.log ⟨.mainsReturn, s.outage.summary.duration, none⟩
      (appendItem .mainsReturn none s).outage := ⟨nofun, by rw [appendItem_new s _ _ h]⟩
  unfold watchExit
  split
  case h_1 =>
    cases hb : s.seq.burst with
    | none =>
      have hc : closeSeqBurst s = s := by simp only [closeSeqBurst, hb]
      rw [hc]
      exact ⟨_, _, rfl, nofun, fun _ => hnew⟩
    | some n =>
      have hc : closeSeqBurst s = appendItem .drumMove (some n) { s with seq.burst := none } := by
        simp only [closeSeqBurst, hb]
      rw [hc]
      exact ⟨_, _, rfl, nofun, nofun⟩
  case h_2 h => exact ⟨_, _, rfl, by rw [h]; nofun, fun _ => hnew⟩
  case h_3 h =>
    have hs : s.seq.state ≠ .watch := by rw [h]; nofun
    exact ⟨_, _, rfl, hs, fun _ => hnew⟩
  case h_4 => exact ⟨_, _, rfl, nofun, fun _ => hnew⟩

/-- The state in which a return leaves the watch: RUN, RETURN for LOSS. -/
def returned (s : State) : State := { s with
  mains := { s.mains with mode := .run, lastGasp := .none, window := none, qualPending := false }
  freeze := { s.freeze with loss := false, ret := true } }

theorem returnWithChain_steps (s : State) : ∃ v e d q, sequencerLeft (returned s) v ∧ evaluationBegun v e ∧ doorCaughtUp e d
    ∧ quadCaughtUp d q ∧ tempCaughtUp q (returnWithChain s) := by
  obtain ⟨e, d, q, he, hd, hq, ht⟩ := startEvaluation_steps (watchExit (returned s))
  exact ⟨_, e, d, q, watchExit_left (returned s), he, hd, hq, ht⟩

/-- What a return leaves. -/
theorem returnWithChain_eq (s : State) : ∃ pa da sn rf o sc sq, returnWithChain s = { returned s with
      panelAlerts := pa, driveAlerts := da, sensing := sn, refs := rf, outage := o, sched := sc, seq := sq
      handover := { s.handover with state := .evaluating, late := false }, plan := none
      engine := { s.engine with scanDue := true } }
    ∧ sq.state ≠ .watch
    ∧ (s.seq.burst = none → s.outage.log.length < 24 →
      ∃ l, o.log = s.outage.log ++ ⟨.mainsReturn, s.outage.summary.duration, none⟩ :: l) := by
  obtain ⟨o, sq, hx, hsq, hlog⟩ := watchExit_eq (returned s)
  have hr : (watchExit (returned s)).freeze.ret = true := by rw [hx]; rfl
  obtain ⟨pa, da, sn, rf, o', he, hkeep⟩ := startEvaluation_caughtUp (watchExit (returned s)) hr
  obtain ⟨sc, hi⟩ := idleSched_eq { watchExit (returned s) with
    handover := { (watchExit (returned s)).handover with state := .evaluating, late := false }, plan := none
    engine.scanDue := true }
  refine ⟨pa, da, sn, rf, o', sc, sq, ?_, hsq, fun hb hl => ?_⟩
  · refine he.trans ?_
    unfold evaluationAt
    rw [hi, hx]
    rfl
  · have ho : Logged s.outage.log ⟨.mainsReturn, s.outage.summary.duration, none⟩ (evaluationAt (watchExit (returned s))).outage := by
      unfold evaluationAt
      rw [hi, hx]
      exact hlog hb hl
    obtain ⟨-, l, hp⟩ := hkeep _ _ ho
    exact ⟨l, by rw [← hp, List.append_assoc]; rfl⟩

end Sys2Proof.Machine
end

section
/-! PROOFS. Pulses and FADING (spec sections 5.1, 5.4, 5.5; O51), the qualification of mains (section 5.6; O52) and the commit of an
entry (section 3.2; O38). -/

set_option Elab.async false

namespace Sys2Proof.Machine

/-! ### What stands after a return -/

/-- What stands in `t` once mains has returned to `s` with a chain open and the engine has taken its next work. -/
structure ReturnedTo (s t : State) : Prop where
  mains : t.mains = { s.mains with mode := .run, lastGasp := .none, window := none, qualPending := false }
  freeze : t.freeze = { s.freeze with loss := false, ret := true }
  evaluating : t.handover.state = .evaluating
  early : t.handover.late = false
  plan : t.plan = none
  seq : t.seq.state ≠ .watch
  log : s.seq.burst = none → s.outage.log.length < 24 →
    ∃ l, t.outage.log = s.outage.log ++ ⟨.mainsReturn, s.outage.summary.duration, none⟩ :: l
  built : t.built = s.built
  journal : t.journal = s.journal
  settings : t.settings = s.settings
  panelPort : t.panelPort = s.panelPort
  drivePort : t.drivePort = s.drivePort
  flushedCopy : t.flushedCopy = s.flushedCopy

theorem serve_returned (s : State) : ReturnedTo s (serve (returnWithChain s)) := by
  obtain ⟨_, _, h⟩ := serve_eq (returnWithChain s)
  obtain ⟨_, _, _, _, _, _, _, hr, hseq, hlog⟩ := returnWithChain_eq s
  rw [h, hr]
  exact ⟨rfl, rfl, rfl, rfl, rfl, hseq, hlog, rfl, rfl, rfl, rfl, rfl, rfl⟩

/-! ### Pulses -/

section Pulses

variable {after : Nat} {s : State}

/-- The pulse in the supervisor: the run count `n`, and the loss timer restarted. -/
def State.pulsed (s : State) (n : Nat) : State :=
  { s with mains := { s.mains with runCount := n, accepted := true, lossTimer := 0 } }

theorem pulse_disregarded (ha : s.mains.accepted = true) (h : s.mains.lossTimer + after < 7000) :
    pulse after s = { s with mains := { s.mains with lossTimer := s.mains.lossTimer + after } } := if_pos ⟨ha, h⟩

theorem pulse_first (h : s.mains.accepted = false ∨ 13000 < s.mains.lossTimer + after) : pulse after s = s.pulsed 1 := by
  have hn : pulseCount s.mains (s.mains.lossTimer + after) = 1 := by
    refine if_neg fun hc => ?_
    simp only [Bool.and_eq_true, decide_eq_true_eq] at hc
    rcases h with h | h
    · exact absurd (hc.1.symm.trans h) nofun
    · omega
  unfold pulse
  dsimp only
  rw [if_neg, hn, if_neg (by omega)]
  · rfl
  · rintro ⟨ha, hc⟩
    rcases h with h | h
    · exact absurd (ha.symm.trans h) nofun
    · omega

/-- A pulse that counts on: from 8 on mains qualifies. -/
theorem pulse_counted (ha : s.mains.accepted = true) (h1 : 7000 ≤ s.mains.lossTimer + after)
    (h2 : s.mains.lossTimer + after ≤ 13000) : pulse after s =
      if 7 ≤ s.mains.runCount then qualify (s.pulsed (min 255 (s.mains.runCount + 1)))
      else s.pulsed (min 255 (s.mains.runCount + 1)) := by
  have hn : pulseCount s.mains (s.mains.lossTimer + after) = min 255 (s.mains.runCount + 1) :=
    if_pos (by simp only [ha, h2, decide_true, Bool.and_self])
  have h8 : 8 ≤ min 255 (s.mains.runCount + 1) ↔ 7 ≤ s.mains.runCount := by omega
  unfold pulse
  dsimp only
  rw [if_neg (by rintro ⟨-, h⟩; omega), hn]
  simp only [h8]
  rfl

theorem qualify_run (h : s.mains.mode = .run) : qualify s = s := by
  unfold qualify
  rw [h]

theorem qualify_waking (h : s.mains.mode = .waking) : qualify s = qualifyWaking s := by
  unfold qualify
  rw [h]

theorem qualify_fading (h : s.mains.mode = .fading) : qualify s = qualifyFading s := by
  unfold qualify
  rw [h]

theorem qualify_held (h : s.mains.mode = .held) : qualify s = returnWithChain s := by
  unfold qualify
  rw [h]

theorem qualifyWaking_chained (h : s.outage.chainOpen = true) : qualifyWaking s = returnWithChain s := if_pos h

theorem qualifyWaking_unchained (h : s.outage.chainOpen = false) :
    qualifyWaking s = { s with mains.mode := .run, engine.scanDue := true } := if_neg (by rw [h]; exact nofun)

theorem qualifyFading_due (h : s.mains.lastGasp = .due) :
    qualifyFading s = makeLastGasp { s with mains.qualPending := true } := by
  unfold qualifyFading
  rw [h]

theorem qualifyFading_requested (h : s.mains.lastGasp = .requested) :
    qualifyFading s = { s with mains.qualPending := true } := by
  unfold qualifyFading
  rw [h]

theorem qualifyFading_none (h : s.mains.lastGasp = .none) : qualifyFading s = returnWithChain s := by
  unfold qualifyFading
  rw [h]

end Pulses

/-! ### The end of FADING -/

section Fading

variable {s : State}

theorem endFading_held (h : s.mains.qualPending = false) :
    endFading s = { s with mains := { s.mains with mode := .held, lastGasp := .none, window := none } } :=
  if_neg (by rw [h]; exact nofun)

theorem endFading_returns (h : s.mains.qualPending = true) : endFading s =
    returnWithChain { s with mains := { s.mains with lastGasp := .none, window := none } } := if_pos h

theorem windowExpires_due (h : s.mains.lastGasp = .due) : windowExpires s = makeLastGasp s := by
  unfold windowExpires
  rw [h]

theorem windowExpires_none (h : s.mains.lastGasp = .none) : windowExpires s = endFading s := by
  unfold windowExpires
  rw [h]

end Fading

/-- Settles O51: by the pulse's spacing, and by what the window's end finds. -/
theorem pulsesAndFading : Obligations.PulsesAndFading := by
  refine ⟨fun after s hr => ?_, fun s hr hf => ?_⟩
  · have hexec : exec (.zeroCrossPulse after) s = .next (serve (pulse after s)) := congrArg _ (if_pos hr)
    rw [hexec]
    refine ⟨fun ha h => by rw [pulse_disregarded ha h], fun h => by rw [pulse_first h]; rfl, fun ha h1 h2 hc => ?_⟩
    rw [pulse_counted ha h1 h2]
    by_cases h7 : 7 ≤ s.mains.runCount
    · rw [if_pos h7, qualify_run (by exact hc.resolve_left (by omega))]
      rfl
    · rw [if_neg h7]
      rfl
  · have hexec (hw : s.mains.window.isSome = true) : exec .lastGaspWindowExpiry s = .next (serve (windowExpires s)) :=
      congrArg _ (if_pos ⟨hr, hf, hw⟩)
    refine ⟨fun hq => congrArg _ (if_pos ⟨hr, hf, hq⟩), fun hw hl hq => ?_, fun hw hl hq => ?_, fun hw hl hq => ?_⟩
    · rw [hexec hw, windowExpires_due hl, makeLastGasp_new hq]
    · rw [hexec hw, windowExpires_none hl, endFading_held hq]
    · rw [hexec hw, windowExpires_none hl, endFading_returns hq]
      have h := serve_returned { s with mains := { s.mains with lastGasp := .none, window := none } }
      exact ⟨_, rfl, congrArg Mains.mode h.mains, h.evaluating, h.freeze, h.plan, h.journal, h.settings⟩

/-! ### The qualification of mains -/

/-- The three ways in which a qualification is a return with a chain open. -/
theorem qualify_returns {s : State} (h : (s.mains.mode = .waking ∧ s.outage.chainOpen = true) ∨ s.mains.mode = .held
    ∨ (s.mains.mode = .fading ∧ s.mains.lastGasp = .none)) : qualify s = returnWithChain s := by
  rcases h with ⟨hm, hc⟩ | hm | ⟨hm, hl⟩
  · rw [qualify_waking hm, qualifyWaking_chained hc]
  · exact qualify_held hm
  · rw [qualify_fading hm, qualifyFading_none hl]

/-- Settles O52: by the supply mode, and in FADING by the state of the last gasp. -/
theorem qualificationReturns : Obligations.QualificationReturns := by
  intro after s m hr ha h1 h2 h7 hm
  have hexec : exec (.zeroCrossPulse after) s = .next (serve (qualify { s with mains := m })) := by
    have h : pulse after s = qualify { s with mains := m } := by
      rw [pulse_counted ha h1 h2, if_pos h7, hm]
      rfl
    rw [← h]
    exact congrArg _ (if_pos hr)
  have hmode : ({ s with mains := m } : State).mains.mode = s.mains.mode := by rw [hm]
  have hgasp : ({ s with mains := m } : State).mains.lastGasp = s.mains.lastGasp := by rw [hm]
  rw [hexec]
  refine ⟨fun hw hc => ?_, fun hf hl hq => ?_, fun hf hl => ?_, fun h => ?_⟩
  · rw [qualify_waking (hmode.trans hw), qualifyWaking_unchained (by exact hc)]
  · rw [qualify_fading (hmode.trans hf), qualifyFading_due (hgasp.trans hl), makeLastGasp_new (by exact hq)]
    rfl
  · rw [qualify_fading (hmode.trans hf), qualifyFading_requested (hgasp.trans hl)]
  · have hq : qualify { s with mains := m } = returnWithChain { s with mains := m } := by
      refine qualify_returns ?_
      rw [hmode, hgasp]
      exact h
    obtain ⟨v, e, d, q, hv, he, hd, hqd, ht⟩ := returnWithChain_steps { s with mains := m }
    have k := serve_returned { s with mains := m }
    rw [hq]
    exact ⟨returned { s with mains := m }, v, e, d, q, _, _, rfl, rfl, rfl, hv, he, hd, hqd, ht, k.mains, k.freeze, k.evaluating,
      k.early, k.plan, k.seq, k.log, k.built, k.journal, k.settings, k.panelPort, k.drivePort, k.flushedCopy⟩

/-! ### The commit of an entry -/

theorem exec_entryCommit {pos : Fin 16} {n : Word} {o : Origin} {b : Snapshot} {s : State} (hr : s.mainRunning = true)
    (hw : s.engine.work = .entry pos n o b) : exec .entryCommit s = .next (serve (commit pos n o b s)) := by
  have h : entryWork s = serve (commit pos n o b s) := by
    unfold entryWork
    rw [hw]
  exact congrArg _ ((if_pos hr).trans h)

theorem commit_lastgasp {pos : Fin 16} {n : Word} {b : Snapshot} {s : State} (hf : s.mains.mode = .fading) :
    commit pos n .lastgasp b s = endFading (raiseBoth .checkpointDone
      { s with journal := s.journal.set pos (committedSlot n .lastgasp b), engine.work := .idle }) := if_pos hf

theorem committedSlot_complete (n : Word) (o : Origin) (b : Snapshot) : (committedSlot n o b).state = .complete := by
  simp [committedSlot, Slot.state]

/-- Settles O38: by the origin, and for LASTGASP by the pending qualification. -/
theorem entriesCommit : Obligations.EntriesCommit := by
  intro pos n o b s u hr hw hu
  rw [exec_entryCommit hr hw]
  subst hu
  refine ⟨?_, ?_, ?_, ?_, ?_, fun ho hf hq => ?_, fun ho hf hq => ?_⟩
  · simp only [Fin.getElem_fin, Vector.getElem_set_self]
    exact committedSlot_complete n o b
  · rintro rfl; rfl
  · rintro rfl; rfl
  · rintro (rfl | rfl) <;> rfl
  · rintro rfl; rfl
  · subst ho
    rw [commit_lastgasp hf, endFading_held (by exact hq)]
    rfl
  · subst ho
    rw [commit_lastgasp hf, endFading_returns (by exact hq)]
    have k := serve_returned { raiseBoth .checkpointDone
        { s with journal := s.journal.set pos (committedSlot n .lastgasp b), engine.work := .idle } with
      mains := { s.mains with lastGasp := .none, window := none } }
    exact ⟨_, rfl, congrArg Mains.mode k.mains, congrArg Mains.lastGasp k.mains,
      congrArg Mains.qualPending k.mains, k.freeze, k.evaluating, k.plan, k.journal, k.settings, k.panelPort, k.drivePort⟩

end Sys2Proof.Machine
end

section
/-! PROOFS. The loss sequence (spec section 5.3; O53), the starts and ends of the domains (sections 5.8 to 5.10, 6.12; O54), the end of
a flush and the outage timer (sections 6.1, 6.5; O60). -/

set_option Elab.async false

namespace Sys2Proof.Machine

/-! ### The loss sequence, step by step -/

/-- Items move the log and the count of lost ones. -/
theorem itemTaken_eq {k : ItemKind} {a : Option Nat} {o o' : Outage} (h : itemTaken k a o o') :
    ∃ l n, o' = { o with log := l, summary := { o.summary with itemsLost := n } } := by
  by_cases h24 : o.log.length < 24
  · exact ⟨_, _, h.1 h24⟩
  · have hne : o.log ≠ [] := by
      intro he
      rw [he] at h24
      exact h24 (by decide)
    have hl := (List.dropLast_append_getLast hne).symm
    by_cases hm : k = .drumMove ∧ (o.log.getLast hne).kind = .drumMove
    · exact ⟨_, _, (h.2 (Nat.not_lt.mp h24) _ _ hl).1 hm.1 hm.2⟩
    · exact ⟨_, _, (h.2 (Nat.not_lt.mp h24) _ _ hl).2 (Decidable.not_and_iff_not_or_not.mp hm)⟩

section Loss

variable (s : State)

theorem lossToHandOver_eq : lossToHandOver s = { s with
    handover := if s.handover.state = .closed then s.handover else { s.handover with state := .closed, late := false }
    kept := if s.handover.state = .closed then s.kept else none
    built := if s.handover.state = .closed then s.built else false } := by
  unfold lossToHandOver
  by_cases h : s.handover.state = .closed
  · simp only [if_pos h]
  · simp only [if_neg h]

theorem idleSched_cases : idleSched s = { s with
    sched := if s.sched.state.timed then { s.sched with state := .idle, remaining := 0 } else s.sched } := by
  unfold idleSched
  split <;> rfl

/-- An open burst goes to the log; the rest of the outage record stands. -/
theorem lossToBurst_eq : ∃ l n, lossToBurst s = { s with
      sensing := { s.sensing with burst := none }
      outage := { s.outage with log := l, summary := { s.outage.summary with itemsLost := n } } }
    ∧ (s.sensing.burst = none → l = s.outage.log ∧ n = s.outage.summary.itemsLost)
    ∧ ∀ k, s.sensing.burst = some k → itemTaken .drumMove (some k) s.outage
        { s.outage with log := l, summary := { s.outage.summary with itemsLost := n } } := by
  cases hb : s.sensing.burst with
  | none =>
    refine ⟨s.outage.log, s.outage.summary.itemsLost, ?_, fun _ => ⟨rfl, rfl⟩, nofun⟩
    simp only [lossToBurst, hb]
    rw [← hb]
  | some k =>
    obtain ⟨o, ht, he⟩ := appendItem_taken { s with sensing.burst := none } .drumMove (some k)
    obtain ⟨l, n, rfl⟩ := itemTaken_eq ht
    refine ⟨l, n, ?_, nofun, ?_⟩
    · simp only [lossToBurst, hb]
      exact he
    · rintro _ ⟨⟩
      exact ht

theorem lossToChain_eq : ∃ o g, lossToChain s = { s with outage := o, mains := { s.mains with lastGasp := g } }
    ∧ (s.outage.chainOpen = false → o = openedChain .loss s.engine.curSeq s.outage ∧ g = .due)
    ∧ (s.outage.chainOpen = true → itemTaken .mainsLost none s.outage o ∧ g = .none) := by
  unfold lossToChain
  split
  case isTrue h =>
    obtain ⟨o, ht, he⟩ := appendItem_taken s .mainsLost none
    exact ⟨o, .none, by rw [he], fun hc => absurd (h.symm.trans hc) nofun, fun _ => ⟨ht, rfl⟩⟩
  case isFalse h => exact ⟨_, .due, rfl, fun _ => ⟨rfl, rfl⟩, fun hc => absurd hc h⟩

theorem watchEntry_eq : watchEntry s =
    { s with seq := if s.seq.state = .dormant then watchEntered s s.seq else s.seq } := by
  unfold watchEntry
  split <;> rfl

/-- The loss sequence up to its fourth step. -/
def lossBegun (s : State) : State := { s with
  mains := { s.mains with
    mode := .fading, lossTimer := max s.mains.lossTimer (s.settings.cfg 2 * 1000), qualPending := false }
  freeze := { s.freeze with loss := true }
  handover := if s.handover.state = .closed then s.handover else { s.handover with state := .closed, late := false }
  kept := if s.handover.state = .closed then s.kept else none
  built := if s.handover.state = .closed then s.built else false
  panelAlerts := s.panelAlerts.add .mainsLoss, driveAlerts := s.driveAlerts.add .mainsLoss
  engine := { s.engine with scanDue := false, work := if s.engine.work = .scanning then .idle else s.engine.work }
  sched := if s.sched.state.timed then { s.sched with state := .idle, remaining := 0 } else s.sched }

theorem lostBeforeWindow_eq : lostBeforeWindow s =
    watchEntry (lossToChain { lossToBurst (lossBegun s) with engine := { (lossToBurst (lossBegun s)).engine with queue := [] } }) := by
  have h : idleSched (raiseBoth .mainsLoss (abandonScan (lossToHandOver { s with
      mains := { s.mains with
        mode := .fading, lossTimer := max s.mains.lossTimer (s.settings.cfg 2 * 1000), qualPending := false }
      freeze.loss := true }))) = lossBegun s := by
    rw [idleSched_cases, lossToHandOver_eq]
    rfl
  rw [← h]
  rfl

/-- The loss sequence as a whole: the burst leaves the log `l` and `n` lost items, the chain makes of it the record `o`. -/
theorem loss_left : ∃ l n o g, loss s = { lossBegun s with
      mains := { (lossBegun s).mains with lastGasp := g, window := some (s.settings.cfg 3) }
      engine := { (lossBegun s).engine with queue := [] }
      sensing := { s.sensing with burst := none }
      outage := o
      seq := if s.seq.state = .dormant then watchEntered { s with outage := o } s.seq else s.seq }
    ∧ (s.sensing.burst = none → l = s.outage.log ∧ n = s.outage.summary.itemsLost)
    ∧ (∀ k, s.sensing.burst = some k → itemTaken .drumMove (some k) s.outage
        { s.outage with log := l, summary := { s.outage.summary with itemsLost := n } })
    ∧ (s.outage.chainOpen = false → o = openedChain .loss s.engine.curSeq s.outage ∧ g = .due)
    ∧ (s.outage.chainOpen = true → itemTaken .mainsLost none
        { s.outage with log := l, summary := { s.outage.summary with itemsLost := n } } o ∧ g = .none) := by
  obtain ⟨l, n, hb, hb0, hbn⟩ := lossToBurst_eq (lossBegun s)
  obtain ⟨o, g, hc, hcf, hct⟩ := lossToChain_eq
    { lossToBurst (lossBegun s) with engine := { (lossToBurst (lossBegun s)).engine with queue := [] } }
  rw [hb] at hcf hct
  refine ⟨l, n, o, g, ?_, hb0, hbn, hcf, hct⟩
  rw [loss_eq, lostBeforeWindow_eq, hc, watchEntry_eq, hb]
  rfl

end Loss

/-- With nothing queued and no scan due, the engine's next work is a flush that waits. -/
theorem serve_emptied {s : State} (hr : s.mainRunning = true) (hq : s.engine.queue = []) (hd : s.engine.scanDue = false) :
    serve s = { s with engine := { s.engine with
      work := if s.engine.work = .idle ∧ s.seq.flushCopy.isSome = true ∧ s.seq.backupFlush = false then .flush
        else s.engine.work } } := by
  by_cases h : s.engine.work = .idle ∧ s.seq.backupFlush = false
  · rw [serve_idle hr h.1 h.2]
    by_cases hf : s.seq.flushCopy.isSome = true
    · rw [startWork_flush hf, if_pos ⟨h.1, hf, h.2⟩]
    · rw [startWork_empty (by simpa using hf) hd hq, if_neg fun hx => hf hx.2.1]
  · rw [if_neg fun hx => h ⟨hx.1, hx.2.2⟩]
    refine serve_busy (.inr ?_)
    by_cases hw : s.engine.work = .idle
    · exact .inr (by simpa [hw] using h)
    · exact .inl hw

/-- The engine's work once a scan has been abandoned and a flush that waits (`f`) has begun. -/
theorem work_after_loss (w : Work) (f : Prop) [Decidable f] :
    (if (if w = .scanning then .idle else w) = .idle ∧ f then .flush else if w = .scanning then .idle else w : Work) =
      if w = .idle ∨ w = .scanning then (if f then .flush else .idle) else w := by
  by_cases hs : w = .scanning
  · simp only [hs, if_true, true_and, or_true]
  · by_cases hi : w = .idle
    · simp only [hi, reduceCtorEq, if_false, true_and, true_or, if_true]
    · simp only [hs, hi, if_false, false_and, or_self]

theorem work_after_loss_ne (w : Work) (f : Prop) [Decidable f] :
    (if w = .idle ∨ w = .scanning then (if f then .flush else .idle) else w : Work) ≠ .scanning := by
  split
  · split <;> nofun
  · rename_i h
    exact fun hw => h (.inr hw)

/-- Settles O53: the loss sequence as `loss_left` says it, then the flush that may have waited. -/
theorem lossSequence : Obligations.LossSequence := by
  intro s hr hm
  obtain ⟨l, n, o, g, hl, hb0, hbn, hcf, hct⟩ := loss_left s
  have hs := serve_emptied (s := loss s) (by rw [hl]; exact hr) (by rw [hl]) (by rw [hl]; rfl)
  have hflush : (loss s).seq.flushCopy = s.seq.flushCopy ∧ (loss s).seq.backupFlush = s.seq.backupFlush := by
    rw [hl]
    dsimp only
    split <;> exact ⟨rfl, rfl⟩
  rw [hflush.1, hflush.2] at hs
  refine ⟨serve (loss s), congrArg _ (if_pos ⟨hr, hm⟩), ?_⟩
  rw [hs, hl]
  refine ⟨rfl, rfl, rfl, rfl, rfl, rfl, ?_, rfl, rfl, fun h => if_pos h, fun h => ⟨if_neg h, if_neg h⟩, rfl, rfl, rfl, ?_, ?_, rfl,
    hcf, fun h => ?_, rfl, fun h => ⟨_, rfl, if_pos h⟩, fun h => ?_, fun h => if_neg h, rfl, rfl, rfl, rfl, rfl, rfl⟩
  · change (if s.handover.state = .closed then s.handover else _ : HandOver).state = _
    split
    · assumption
    · rfl
  · exact (work_after_loss _ _).trans_ne (work_after_loss_ne _ _)
  · exact congrArg (fun w => ({ s.engine with queue := [], scanDue := false, work := w } : Engine)) (work_after_loss _ _)
  · obtain ⟨hi, hg⟩ := hct h
    obtain ⟨_, _, ho⟩ := itemTaken_eq hi
    refine ⟨by rw [ho]; exact h, by rw [ho], by rw [ho], hg, _, fun hb => ?_, hbn, hi⟩
    obtain ⟨rfl, rfl⟩ := hb0 hb
    rfl
  · rw [if_pos h]
    rfl

/-! ### The ends and starts of the domains -/

section Domains

variable (s : State)

theorem clearMain_ended : mainEnded (clearMain s) := by
  refine ⟨rfl, rfl, rfl, rfl, rfl, rfl, rfl, rfl, fun i => ?_, rfl, rfl, rfl, rfl, rfl, rfl, rfl, rfl, rfl⟩
  simp [clearMain, talliesStart, Tally.start]

theorem mainStart_eq (mv : Nat) : mainStart mv s = { clearMain s with
    sensing := { Sensing.start with backupMv := some (min 6000 (mv / 10 * 10)) }
    outage := if s.outage.fresh = true ∧ s.outage.chainOpen = false then openedChain .cold none s.outage else s.outage } := by
  unfold mainStart
  have h : ((clearMain s).outage.fresh && !(clearMain s).outage.chainOpen) = true ↔
      s.outage.fresh = true ∧ s.outage.chainOpen = false := by
    rw [Bool.and_eq_true, Bool.not_eq_true']
    rfl
  by_cases hc : s.outage.fresh = true ∧ s.outage.chainOpen = false
  · rw [if_pos hc]
    exact if_pos (h.mpr hc)
  · rw [if_neg hc]
    exact if_neg fun hx => hc (h.mp hx)

/-- A main-domain start leaves the main domain at its start values. -/
theorem mainStart_atStart (mv : Nat) : mainAtStart mv (mainStart mv s) := by
  obtain ⟨h1, h2, h3, h4, h5, h6, h7, h8, h9, h10, h11, h12, -, h14, h15, h16, h17, h18⟩ := clearMain_ended s
  rw [mainStart_eq]
  exact ⟨h1, h2, h3, h4, h5, h6, h7, h8, h9, h10, h11, h12, rfl, h14, h15, h16, h17, h18⟩

/-- The body's write begun, its commit mark still an earlier entry's: the slot is OPEN. -/
theorem slot_opened {sl : Slot} {n : Word} (hb : sl.blank = false) (ho : sl.openMark = true) (hn : sl.seqNo = n)
    (hk : sl.check = ~~~n) (hc : sl.commit ≠ some n) : sl.state = .opened := by
  simp [Slot.state, hb, ho, hn, hk, hc]

section Cut

variable (cut : CutStep) (m : BitVec 17) (n : Word) (o : Origin) (b : Snapshot) (old : Slot)

theorem cutSlot_header : (cutSlot .header m n o b old).state = .corrupt := by
  simp [cutSlot, Slot.state]

theorem cutSlot_opened (hcut : cut ≠ .header) (hc : old.commit ≠ some n) :
    (cutSlot cut m n o b old).state = .opened ∧ (cutSlot cut m n o b old).seqNo = n := by
  cases cut with
  | header => exact absurd rfl hcut
  | body => exact ⟨slot_opened rfl rfl rfl rfl hc, rfl⟩
  | commit => exact ⟨slot_opened rfl rfl rfl rfl hc, rfl⟩

end Cut

/-- What a cut leaves: the slot of the entry in progress, a flush on the backup path, everything else as it was. -/
theorem cutWrite_eq (cut : CutStep) : ∃ j f, cutWrite cut s = { s with
      journal := j, freeCount := f, seq := { s.seq with backupFlush := s.seq.flushCopy.isSome } }
    ∧ ((∀ pos n o b, s.engine.work ≠ .entry pos n o b) → j = s.journal)
    ∧ ∀ pos n o b, s.engine.work = .entry pos n o b →
        j = s.journal.set pos (cutSlot cut (Config.freeBodyPart s.freeCount) n o b s.journal[pos]) := by
  unfold cutWrite
  split
  case h_1 pos n o b hw =>
    refine ⟨_, _, rfl, fun h => absurd hw (h pos n o b), fun pos' n' o' b' hw' => ?_⟩
    obtain ⟨rfl, rfl, rfl, rfl⟩ := Work.entry.inj (hw.symm.trans hw')
    rfl
  case h_2 hw => exact ⟨_, _, rfl, fun _ => rfl, fun pos n o b h => absurd h (hw pos n o b)⟩

theorem collapse_eq (cut : CutStep) (u : State) (hu : u = if s.mainRunning then cutWrite cut s else s) :
    collapse cut s = { clearMain u with
      vdd := false, rstn := false
      seq := if u.outage.chainOpen = true ∧ u.seq.state = .dormant then watchEntered u u.seq else u.seq } := by
  subst hu
  unfold collapse
  dsimp only
  generalize (if s.mainRunning then cutWrite cut s else s) = u
  by_cases hc : u.outage.chainOpen = true
  · refine (if_pos hc).trans ?_
    rw [watchEntry_eq]
    simp only [hc, true_and]
    rfl
  · have hs : ¬(u.outage.chainOpen = true ∧ u.seq.state = .dormant) := fun hx => hc hx.1
    rw [if_neg hs]
    exact if_neg hc

theorem assertReset_eq (cut : CutStep) : assertReset cut s = { clearMain (cutWrite cut s) with
    rstn := true
    outage := if (cutWrite cut s).outage.chainOpen then { (cutWrite cut s).outage with resetSeen := true }
      else openedChain .reset none (cutWrite cut s).outage } := by
  unfold assertReset
  by_cases hc : (cutWrite cut s).outage.chainOpen = true
  · rw [if_pos hc]
    exact if_pos hc
  · rw [if_neg hc]
    exact if_neg hc

end Domains

/-- Settles O54: the starts by `mainStart_eq`, the ends by `collapse_eq` and `assertReset_eq`, the write they cut by
`cutWrite_eq`. -/
theorem domainsStartAndEnd : Obligations.DomainsStartAndEnd := by
  refine ⟨fun mv s => ⟨fun hv hr => ?_, fun hv hb hr => ?_, fun hv hb hr => ?_, fun hv hb => ?_, fun hv hb => ?_⟩,
    fun cut s hv hr => ?_, fun cut s hr => ?_⟩
  · have h := mainStart_eq { s with rstn := false } mv
    refine ⟨mainStart mv { s with rstn := false }, congrArg _ (if_pos ⟨hv, hr⟩), mainStart_atStart _ mv, ?_⟩
    rw [h]
    exact ⟨hv, rfl, rfl, rfl, rfl, rfl, rfl, rfl, rfl⟩
  · have h := mainStart_eq { s with vdd := true } mv
    refine ⟨mainStart mv { s with vdd := true }, congrArg _ (if_pos ⟨hv, hb⟩), mainStart_atStart _ mv, ?_⟩
    rw [h]
    exact ⟨rfl, hr, hb, rfl, rfl, rfl, rfl, rfl, rfl⟩
  · have h := mainStart_eq (freshBackup { s with vdd := true, vbk := true }) mv
    refine ⟨mainStart mv (freshBackup { s with vdd := true, vbk := true }), congrArg _ (if_pos ⟨hv, hb⟩),
      mainStart_atStart _ mv, ?_⟩
    rw [h]
    exact ⟨rfl, rfl, rfl, rfl, rfl, rfl, rfl, rfl⟩
  · exact congrArg _ (if_pos ⟨hv, hb⟩)
  · exact congrArg _ (if_pos ⟨hv, hb⟩)
  · have hrun : s.mainRunning = false := by simp [State.mainRunning, hr]
    have h := collapse_eq s cut s (if_neg (Bool.eq_false_iff.mp hrun)).symm
    refine ⟨collapse cut s, congrArg _ (if_pos hv), ?_⟩
    rw [h]
    exact ⟨clearMain_ended s, rfl, rfl, rfl, rfl, rfl, rfl, rfl, rfl, rfl⟩
  · have hv : s.vdd = true := (Bool.and_eq_true_iff.mp hr).1
    obtain ⟨j, f, hcut, hj0, hj⟩ := cutWrite_eq s cut
    have hc := collapse_eq s cut _ (if_pos hr).symm
    have ha := assertReset_eq s cut
    have he := clearMain_ended (cutWrite cut s)
    rw [hcut] at hc ha he
    refine ⟨assertReset cut s, collapse cut s, congrArg _ (if_pos hr), congrArg _ (if_pos hv), ?_⟩
    rw [hc, ha]
    refine ⟨he, he, rfl, rfl, rfl, rfl, hv, rfl, rfl, rfl, rfl, rfl, rfl, rfl, rfl, rfl, rfl, rfl, rfl, rfl, rfl, rfl, rfl, rfl,
      rfl, rfl, rfl, rfl, rfl, rfl, rfl, fun h1 h2 => ?_, fun h => ?_, rfl, rfl, rfl, rfl, rfl, hj0, fun pos n o b hw => ?_⟩
    · refine and_iff_right_of_imp (fun hx => ?_) |>.mpr (if_pos ⟨h1, h2⟩)
      exact congrArg Sequencer.state hx
    · exact if_neg fun hx => h.elim (fun h => absurd (hx.1.symm.trans h) nofun) fun h => h hx.2
    · have hpos : j[pos] = cutSlot cut (Config.freeBodyPart s.freeCount) n o b s.journal[pos] := by
        rw [hj pos n o b hw]
        exact Vector.getElem_set_self _
      refine ⟨fun i hi => ?_, fun hh => ?_, fun hh hm => ?_, fun hh => ?_⟩
      · change j[i] = s.journal[i]
        rw [hj pos n o b hw]
        exact Vector.getElem_set_ne _ _ fun hp => hi (Fin.ext hp.symm)
      · change j[pos].state = _
        rw [hpos, hh]
        exact cutSlot_header ..
      · change j[pos].state = _ ∧ j[pos].seqNo = n
        rw [hpos]
        exact cutSlot_opened _ _ _ _ _ _ hh hm
      · change j[pos].body = b
        rw [hpos, hh]
        rfl

/-! ### The ends of flushes and of seconds -/

/-- Settles O60: one equation per command. -/
theorem flushesAndTheOutageTimer : Obligations.FlushesAndTheOutageTimer := by
  intro s hv
  refine ⟨fun c hc hf => ?_, fun hc hs => ?_, fun h => ?_⟩
  · have he : endFlush s = { s with
        flushedCopy := c
        outage := { s.outage with summary := { s.outage.summary with flushed := true } }
        engine := { s.engine with work := if s.engine.work = .flush then .idle else s.engine.work }
        seq := { s.seq with
          state := if s.seq.returnSeen then .dormant else .spent, returnSeen := false, flushCopy := none
          backupFlush := false } } := by
      unfold endFlush
      rw [hc]
    rw [← he]
    exact congrArg _ (if_pos ⟨hv, hf⟩)
  · have ht : s.timerCounts = true := by
      unfold State.timerCounts
      rcases hs with hs | hs <;> rw [hc, hs] <;> rfl
    have h65535 : min 65535 (s.outage.summary.duration + 1) = 65535 ↔ 65534 ≤ s.outage.summary.duration := by omega
    refine congrArg _ ((if_pos ⟨hv, ht⟩).trans ?_)
    unfold timerSecond
    simp only [h65535]
  · have ht : ¬(s.vbk = true ∧ s.timerCounts = true) := by
      rintro ⟨-, ht⟩
      simp only [State.timerCounts, Bool.and_eq_true, Bool.or_eq_true, beq_iff_eq] at ht
      rcases h with h | h | h
      · exact absurd (ht.1.symm.trans h) nofun
      · exact absurd ht.2 (by rw [h]; nofun)
      · exact absurd ht.2 (by rw [h]; nofun)
    exact congrArg _ (if_neg ht)

end Sys2Proof.Machine
end

section
/-! PROOFS. The thermistor (spec section 4.5; O58). -/

set_option Elab.async false

namespace Sys2Proof.Machine

/-! ### The table read at a code -/

/-- A table whose codes rise, read at or above the code of one of its points: the points from there on decide. -/
theorem lookup_from {c : Nat} {a : Nat × Int} {l : List (Nat × Int)} (hc : a.1 ≤ c) : ∀ pre : List (Nat × Int),
    (pre ++ a :: l).Pairwise (fun x y => x.1 < y.1) → lookup c (pre ++ a :: l) = lookup c (a :: l)
  | [], _ => rfl
  | [x], h => lookup_above ((List.pairwise_cons.mp h).1 a (List.mem_cons_self ..)) hc
  | x :: y :: pre, h => by
    obtain ⟨hx, ht⟩ := List.pairwise_cons.mp h
    have hy : y.1 < a.1 := (List.pairwise_cons.mp ht).1 a (List.mem_append_right _ (List.mem_cons_self ..))
    exact (lookup_above (hx y (List.mem_cons_self ..)) (hy.le.trans hc)).trans (lookup_from hc (y :: pre) ht)

section Table

variable {tb : Vector Word 18}

/-- The points from point `k` on. -/
theorem tablePoints_drop (k : Fin 9) :
    (tablePoints tb).drop k = (codeAt tb k, degreesAt tb k) :: (tablePoints tb).drop (k + 1) := by
  have hk : k.val < (tablePoints tb).length := by
    rw [tablePoints, List.length_map, List.length_finRange]
    exact k.isLt
  rw [List.drop_eq_getElem_cons hk]
  congr 1
  simp only [tablePoints, List.getElem_map, List.getElem_finRange, tablePoint_eq]
  rfl

theorem codesRise_strictMono (h : codesRise tb) : StrictMono (codeAt tb) := Fin.strictMono_iff_lt_succ.mpr h

theorem tablePoints_pairwise (h : codesRise tb) : (tablePoints tb).Pairwise fun x y => x.1 < y.1 := by
  refine List.pairwise_map.mpr ((List.pairwise_lt_finRange 9).imp fun {a b} hab => ?_)
  rw [tablePoint_eq, tablePoint_eq]
  exact codesRise_strictMono h hab

/-- The table read at or above the code of point `k`. -/
theorem lookup_tablePoints (h : codesRise tb) {c : Nat} (k : Fin 9) (hc : codeAt tb k ≤ c) :
    lookup c (tablePoints tb) = lookup c ((codeAt tb k, degreesAt tb k) :: (tablePoints tb).drop (k + 1)) := by
  have hp := tablePoints_pairwise h
  rw [← List.take_append_drop k (tablePoints tb), tablePoints_drop] at hp
  rw [← lookup_from hc _ hp, ← tablePoints_drop, List.take_append_drop]

theorem lookup_at (h : codesRise tb) (k : Fin 9) : lookup (codeAt tb k) (tablePoints tb) = degreesAt tb k := by
  rw [lookup_tablePoints h k le_rfl, lookup_below (by exact le_rfl)]

theorem lookup_first {c : Nat} (hc : c ≤ codeAt tb 0) : lookup c (tablePoints tb) = degreesAt tb 0 := by
  have h0 := tablePoints_drop (tb := tb) 0
  rw [Fin.val_zero, List.drop_zero] at h0
  rw [h0, lookup_below hc]

theorem lookup_last (h : codesRise tb) {c : Nat} (hc : codeAt tb 8 ≤ c) : lookup c (tablePoints tb) = degreesAt tb 8 :=
  lookup_tablePoints h 8 hc

theorem lookup_interpolated (h : codesRise tb) {c : Nat} (k : Fin 8) (h1 : codeAt tb k.castSucc < c) (h2 : c < codeAt tb k.succ) :
    lookup c (tablePoints tb) = interpolate c (codeAt tb k.castSucc, degreesAt tb k.castSucc) (codeAt tb k.succ, degreesAt tb k.succ) := by
  have hd := tablePoints_drop (tb := tb) k.succ
  rw [Fin.val_succ] at hd
  rw [lookup_tablePoints h k.castSucc h1.le, Fin.val_castSucc, hd, lookup_between h1 h2]

theorem temperatureOf_rising (h : codesRise tb) (code : BitVec 10) :
    temperatureOf tb code = max (-20) (min 150 (lookup code.toNat (tablePoints tb))) := by
  unfold temperatureOf
  rw [if_pos ((tableUsable_iff tb).mpr h)]

theorem temperatureOf_fallen (h : ¬codesRise tb) (code : BitVec 10) : temperatureOf tb code = temperatureOf factoryTemp code := by
  unfold temperatureOf
  rw [if_neg (mt (tableUsable_iff tb).mp h), ite_self]

/-- A point's temperature lies in the range already. -/
theorem degreesAt_held (k : Fin 9) : max (-20) (min 150 (degreesAt tb k)) = degreesAt tb k := by
  unfold degreesAt
  omega

/-- Where the table reads a point's temperature, so does the code. -/
theorem temperatureOf_point (h : codesRise tb) {code : BitVec 10} {k : Fin 9}
    (hl : lookup code.toNat (tablePoints tb) = degreesAt tb k) : temperatureOf tb code = degreesAt tb k := by
  rw [temperatureOf_rising h, hl, degreesAt_held]

end Table

/-! ### Conversions -/

section Conversion

variable {code : BitVec 10} {s : State}

theorem codeValid_of (h1 : 16 ≤ code.toNat) (h2 : code.toNat ≤ 1007) : codeValid code = true := by
  simp only [codeValid, h1, h2, decide_true, Bool.and_self]

theorem codeValid_not (h : code.toNat < 16 ∨ 1007 < code.toNat) : ¬codeValid code = true := by
  simp only [codeValid, Bool.and_eq_true, decide_eq_true_eq]
  omega

theorem updatesRefs_iff (s : State) : s.updatesRefs = true ↔ s.logger = true ∨ s.outage.chainOpen = false := by
  simp only [State.updatesRefs, Bool.or_eq_true, Bool.not_eq_true']

/-- The temperature reference where sensing updates the references. -/
theorem refs_updated (s : State) (t : Int) :
    (if s.logger = true ∨ s.outage.chainOpen = false then { s.refs with temp := some t } else s.refs) =
      { s.refs with temp := if s.updatesRefs then some t else s.refs.temp } := by
  simp only [← updatesRefs_iff]
  split <;> rfl

/-- A valid conversion, with the alerts that the end of a fault leaves. -/
theorem conversion_valid (h : codeValid code = true) : conversion code s = { s with
    storeFault := s.storeFault || !tableUsable s.settings.temp
    sensing := { s.sensing with
      convCode := some code, fault := false, faultAsLogger := false, lastTemp := some (temperatureOf s.settings.temp code) }
    lpr := { s.lpr with temp := if s.built then temperatureOf s.settings.temp code else s.lpr.temp, stale := false }
    handover := { s.handover with
      overLimit := overLimitAfter s.handover.overLimit (temperatureOf s.settings.temp code) (s.settings.cfg 7) }
    refs := if s.logger = true ∨ s.outage.chainOpen = false then { s.refs with temp := some (temperatureOf s.settings.temp code) }
      else s.refs
    panelAlerts := if s.sensing.fault then s.panelAlerts.faultCeases else s.panelAlerts
    driveAlerts := if s.sensing.fault then s.driveAlerts.faultCeases else s.driveAlerts } := by
  rw [refs_updated]
  refine (if_pos h).trans ?_
  unfold validConversion
  by_cases hf : s.sensing.fault = true
  · simp only [hf, if_true]
    rfl
  · simp only [hf, if_false, Bool.false_eq_true]
    rfl

theorem conversion_faulted (h : codeValid code = false) (hf : s.sensing.fault = true) : conversion code s =
    { s with sensing := { s.sensing with convCode := some code }, lpr := { s.lpr with stale := true } } :=
  (if_neg (Bool.eq_false_iff.mp h)).trans (if_pos hf)

/-- A faulted code that enters the fault condition. -/
theorem conversion_faults (h : codeValid code = false) (hf : s.sensing.fault = false) : conversion code s =
    faultEntry { s with sensing := { s.sensing with convCode := some code }, lpr := { s.lpr with stale := true } } :=
  (if_neg (Bool.eq_false_iff.mp h)).trans (if_neg (Bool.eq_false_iff.mp hf))

theorem faultEntry_logged (h : s.logger = true) : ∃ o, itemTaken .sensorFault none s.outage o ∧ faultEntry s =
    newLogItem .sensorFault { s with
      sensing := { s.sensing with fault := true, faultAsLogger := true }, outage := o
      panelAlerts := { s.panelAlerts.add .sensorFault with taken := false }
      driveAlerts := { s.driveAlerts.add .sensorFault with taken := false } } := by
  obtain ⟨o, ht, he⟩ := senseItem_taken { s with
    sensing := { s.sensing with fault := true, faultAsLogger := s.logger }
    panelAlerts := s.panelAlerts.faultEnters, driveAlerts := s.driveAlerts.faultEnters } .sensorFault none
  rw [h] at he
  refine ⟨o, ht, ?_⟩
  unfold faultEntry
  rw [h]
  exact he

theorem faultEntry_unlogged (h : s.logger = false) : faultEntry s = { s with
    sensing := { s.sensing with fault := true, faultAsLogger := false }
    panelAlerts := { s.panelAlerts.add .sensorFault with taken := false }
    driveAlerts := { s.driveAlerts.add .sensorFault with taken := false } } := by
  unfold faultEntry
  rw [h]
  rfl

/-- The end of the fault condition on one port. -/
theorem faultCeases_spec (a : Alerts) : a.faultCeases.mask = a.mask ∧ a.faultCeases.levels = a.levels
    ∧ a.faultCeases.has Alert.sensorFault.num = (a.has Alert.sensorFault.num && !a.taken)
    ∧ a.faultCeases.taken = (a.taken && !a.has Alert.sensorFault.num)
    ∧ ∀ k : Fin 13, k ≠ Alert.sensorFault.num → a.faultCeases.has k = a.has k := by
  have hrem (k : Fin 13) : Alerts.has { a.remove Alert.sensorFault.num with taken := false } k =
      (a.has k && k != Alert.sensorFault.num) := Alerts.has_remove a _ k
  unfold Alerts.faultCeases
  split
  case isTrue h =>
    obtain ⟨hh, ht⟩ := Bool.and_eq_true_iff.mp h
    refine ⟨rfl, rfl, ?_, ?_, fun k hk => ?_⟩
    · rw [hrem, ht, bne_self_eq_false, Bool.and_false, Bool.not_true, Bool.and_false]
    · rw [hh, Bool.not_true, Bool.and_false]
    · rw [hrem, bne_iff_ne.mpr hk, Bool.and_true]
  case isFalse h =>
    refine ⟨rfl, rfl, ?_, ?_, fun _ _ => rfl⟩
    · cases hh : a.has Alert.sensorFault.num <;> cases ht : a.taken <;> simp_all
    · cases hh : a.has Alert.sensorFault.num <;> cases ht : a.taken <;> simp_all

end Conversion

/-- Settles O58: the table by the place of the code among its points, the conversion by the code and the fault condition. -/
theorem thermistorConversions : Obligations.ThermistorConversions := by
  refine ⟨fun tb code => ⟨fun h => temperatureOf_fallen h code, fun h => ⟨fun hc => temperatureOf_point h (lookup_first hc),
    fun hc => temperatureOf_point h (lookup_last h hc), fun k hc => temperatureOf_point h (by rw [hc, lookup_at h]), ?_⟩⟩,
    by decide, fun code temp s hr ht => ?_⟩
  · rintro k den num rfl rfl h1 h2
    have hi := interpolate_rounds (c := code.toNat) (a := (codeAt tb k.castSucc, degreesAt tb k.castSucc))
      (b := (codeAt tb k.succ, degreesAt tb k.succ)) (h k)
    exact ⟨_, hi.1, hi.2, by rw [temperatureOf_rising h, lookup_interpolated h k h1 h2]⟩
  · subst ht
    have hexec : exec (.thermistorConversion code) s = .next (serve (conversion code s)) := congrArg _ (if_pos hr)
    rw [hexec]
    refine ⟨fun h1 h2 hf => ?_, fun h1 h2 hf => ?_, fun hc hf => ?_, fun hc hf hl => ?_, fun hc hf hl => ?_⟩
    · simp only [conversion_valid (codeValid_of h1 h2), overLimitAfter, hf, Bool.false_eq_true, if_false]
    · rw [conversion_valid (codeValid_of h1 h2), hf]
      refine ⟨_, s.panelAlerts.faultCeases, s.driveAlerts.faultCeases, rfl, rfl, fun p => ?_⟩
      obtain ⟨_, _, he⟩ := serve_eq (conversion code s)
      rw [conversion_valid (codeValid_of h1 h2), hf] at he
      have hp : State.alerts (serve _) p = (s.alerts p).faultCeases := (congrArg (State.alerts · p) he).trans (by cases p <;> rfl)
      rw [hp]
      exact faultCeases_spec _
    · rw [conversion_faulted (Bool.eq_false_iff.mpr (codeValid_not hc)) hf]
    · rw [conversion_faults (Bool.eq_false_iff.mpr (codeValid_not hc)) hf]
      obtain ⟨o, ho, he⟩ := faultEntry_logged (s := { s with
        sensing := { s.sensing with convCode := some code }, lpr := { s.lpr with stale := true } }) hl
      exact ⟨o, ho, by rw [he]⟩
    · rw [conversion_faults (Bool.eq_false_iff.mpr (codeValid_not hc)) hf, faultEntry_unlogged (by exact hl)]

end Sys2Proof.Machine
end

section
/-! PROOFS. What an occurrence can move, the heater sense and the second (spec sections 4.4 to 4.6; O57). -/

set_option Elab.async false

namespace Sys2Proof.Machine

/-! ### Acts that only deliver occurrences -/

/-- `t` is `s` but for what occurrences move: the tallies, NOTIFY, the pending sources and the queue. -/
def Occurred (s t : State) : Prop := ∃ ts n pa da q, t = { s with
  tallies := ts, freeze := { s.freeze with notify := n }, panelAlerts := pa, driveAlerts := da
  engine := { s.engine with queue := q } }

namespace Occurred

variable {s t u : State}

theorem refl (s : State) : Occurred s s := ⟨_, _, _, _, _, rfl⟩

theorem trans (h : Occurred s t) (k : Occurred t u) : Occurred s u := by
  obtain ⟨_, _, _, _, _, rfl⟩ := h
  obtain ⟨_, _, _, _, _, rfl⟩ := k
  exact ⟨_, _, _, _, _, rfl⟩

theorem guarded {c : Prop} [Decidable c] (h : Occurred s t) : Occurred s (if c then t else s) := by
  split
  · exact h
  · exact refl s

end Occurred

theorem deliver_occurred (src : Source) (inc : Nat) (s : State) : Occurred s (deliver src inc s) := by
  obtain ⟨ts, n, pa, da, q, h, -⟩ := deliver_eq src inc s
  exact ⟨ts, n, pa, da, q, h⟩

/-! ### Heater samples and seconds -/

section Second

variable {s : State}

theorem htsSampled_eq (high : Bool) : htsSampled high s = { s with
    sensing := { s.sensing with
      htsLatest := high, htsHighs := s.sensing.htsHighs + (if high then 1 else 0)
      episode := if high = true ∧ s.hpm = false then (if s.sensing.episode = .none then .running else s.sensing.episode) else .none
      mismatchMs := if high = true ∧ s.hpm = false ∧ s.sensing.episode = .none then 0 else s.sensing.mismatchMs } } := by
  unfold htsSampled
  simp only [Bool.and_eq_true, Bool.not_eq_true', beq_iff_eq, and_assoc]
  cases high <;> rfl

/-- The HEATER_SECONDS occurrence of a second of `s`. -/
def heaterOccurs (s z : State) : State := if 50 ≤ s.sensing.htsHighs then deliver .heaterSeconds 1 z else z

/-- The TEMP_SECONDS occurrence of a second of `s`. -/
def tempOccurs (s z : State) : State := deliver .tempSeconds s.tempIncrement z

theorem heaterOccurs_occurred (s z : State) : Occurred z (heaterOccurs s z) := Occurred.guarded (deliver_occurred _ _ z)

theorem tempOccurs_occurred (s z : State) : Occurred z (tempOccurs s z) := deliver_occurred _ _ z

/-- An occurrence does not move what the other of a second's occurrences reads. -/
theorem heaterSecond_of {z : State} (h : Occurred s z) : heaterSecond z = heaterOccurs s z := by
  obtain ⟨_, _, _, _, _, rfl⟩ := h
  rfl

theorem tempSecond_of {z : State} (h : Occurred s z) : tempSecond z = tempOccurs s z := by
  obtain ⟨_, _, _, _, _, rfl⟩ := h
  rfl

/-- The two occurrences of a second, in either order. -/
def secondOccurs (tempFirst : Bool) (s : State) : State :=
  if tempFirst then heaterOccurs s (tempOccurs s s) else tempOccurs s (heaterOccurs s s)

theorem secondOccurs_occurred (tempFirst : Bool) (s : State) : Occurred s (secondOccurs tempFirst s) := by
  cases tempFirst
  · exact (heaterOccurs_occurred s s).trans (tempOccurs_occurred s _)
  · exact (tempOccurs_occurred s s).trans (heaterOccurs_occurred s _)

/-- A second's end: the occurrences, the logger's door-open second, the measurement of VBK. -/
theorem secondEnds_eq (mv : Nat) (tempFirst : Bool) (s : State) : secondEnds mv tempFirst s =
    { secondOccurs tempFirst s with
      sensing := { s.sensing with htsHighs := 0, secondMs := 0, backupMv := some (min 6000 (mv / 10 * 10)) }
      outage := { s.outage with
        summary := { s.outage.summary with
          doorOpenSec := if s.logger = true ∧ s.sensing.door = some .opened then min 65535 (s.outage.summary.doorOpenSec + 1)
            else s.outage.summary.doorOpenSec } } } := by
  have h : (if tempFirst then heaterSecond (tempSecond s) else tempSecond (heaterSecond s)) = secondOccurs tempFirst s := by
    have hh : heaterSecond s = heaterOccurs s s := rfl
    have ht : tempSecond s = tempOccurs s s := rfl
    rw [hh, ht, heaterSecond_of (tempOccurs_occurred s s), tempSecond_of (heaterOccurs_occurred s s)]
    rfl
  unfold secondEnds
  rw [h]
  obtain ⟨ts, n, pa, da, q, ho⟩ := secondOccurs_occurred tempFirst s
  rw [ho]
  unfold doorOpenSecond State.logger
  simp only [Bool.and_eq_true, beq_iff_eq]
  split <;> rfl

end Second

/-- Settles O57: one equation for a sample and one for a second's end. -/
theorem heaterSamplesAndSeconds : Obligations.HeaterSamplesAndSeconds := by
  intro high tempFirst mv s hr
  refine ⟨fun ep hep => ?_, fun he => congrArg _ (if_pos ⟨hr, he⟩), ?_⟩
  · subst hep
    rw [← htsSampled_eq]
    exact congrArg _ (if_pos hr)
  · obtain ⟨_, _, hs⟩ := serve_eq (secondEnds mv tempFirst s)
    rw [secondEnds_eq] at hs
    obtain ⟨_, _, _, _, _, ho⟩ := secondOccurs_occurred tempFirst s
    refine ⟨serve (secondEnds mv tempFirst s), heaterOccurs s, tempOccurs s, s.tempIncrement, congrArg _ (if_pos hr), rfl,
      fun _ => rfl, fun _ => rfl, ?_, ?_, ?_⟩
    · rw [secondEnds_eq, hs]
      rfl
    · rw [secondEnds_eq, hs]
      rfl
    · rw [secondEnds_eq, hs, ho]
      exact ⟨rfl, rfl, rfl, rfl, rfl, rfl, rfl, rfl, rfl, rfl, rfl, rfl, rfl⟩

end Sys2Proof.Machine
end

section
/-! PROOFS. The door (spec section 4.2; O55). -/

set_option Elab.async false

namespace Sys2Proof.Machine

/-! ### What an item can move at the hand-over -/

/-- `t` is `s` but for what an item can bring about at the hand-over: the plan recomputed, DONE written, the chain closed. The log,
the summary and the rest of sensing and of the watch stay; nothing opens a burst, and in DONE the record and the scheduler stay. -/
def Heard (s t : State) : Prop := ∃ l ts pr sc f pa da q oc fr ks b pc qt kp ho pl, t = { s with
    lpr := l, tallies := ts, preloaded := pr, sched := sc, freeze := f, panelAlerts := pa, driveAlerts := da
    engine := { s.engine with queue := q }
    outage := { s.outage with chainOpen := oc, fresh := fr, keyFromScan := ks }
    sensing := { s.sensing with burst := b }, seq := { s.seq with pace := pc, quiet := qt }
    kept := kp, handover := ho, plan := pl }
  ∧ (s.sensing.burst = none → b = none) ∧ (s.lpr.phase = .done → l = s.lpr ∧ sc = s.sched)

namespace Heard

variable {s t u : State}

theorem refl (s : State) : Heard s s :=
  ⟨_, _, _, _, _, _, _, _, _, _, _, _, _, _, _, _, _, rfl, id, fun _ => ⟨rfl, rfl⟩⟩

theorem trans (h : Heard s t) (k : Heard t u) : Heard s u := by
  obtain ⟨l, _, _, sc, _, _, _, _, _, _, _, _, _, _, _, _, _, rfl, hb, hl⟩ := h
  obtain ⟨l', _, _, sc', _, _, _, _, _, _, _, _, _, _, _, _, _, rfl, kb, kl⟩ := k
  refine ⟨l', _, _, sc', _, _, _, _, _, _, _, _, _, _, _, _, _, rfl, fun h => kb (hb h), fun h => ?_⟩
  obtain ⟨rfl, rfl⟩ := hl h
  exact kl h

/-- The plan, the hand-over, the freeze set and the alerts move. -/
theorem moved (s : State) (f : Freeze) (pa da : Alerts) (ho : HandOver) (pl : Option Plan) :
    Heard s { s with freeze := f, panelAlerts := pa, driveAlerts := da, handover := ho, plan := pl } :=
  ⟨_, _, _, _, _, _, _, _, _, _, _, _, _, _, _, _, _, rfl, id, fun _ => ⟨rfl, rfl⟩⟩

end Heard

section Hearing

variable (s : State)

theorem writeDone_heard (r : EndReason) : Heard s (writeDone r s) := by
  by_cases h : s.lpr.phase = .done
  · rw [show writeDone r s = s from if_pos h]
    exact Heard.refl s
  · obtain ⟨_, _, _, _, _, he, -⟩ := changeToDone_changed s r
    rw [show writeDone r s = changeToDone r s from if_neg h, he]
    exact ⟨_, _, _, _, _, _, _, _, _, _, _, _, _, _, _, _, _, rfl, id, fun hd => absurd hd h⟩

theorem close_heard : Heard s (close s) := by
  obtain ⟨_, _, _, _, _, h, -⟩ := chainClosed_eq (close_closed s)
  rw [h]
  exact ⟨_, _, _, _, _, _, _, _, _, _, _, _, _, _, _, _, _, rfl, fun _ => rfl, fun _ => ⟨rfl, rfl⟩⟩

theorem carryEnd_heard : Heard s (carryEnd s) := (writeDone_heard s .phase).trans (close_heard _)

theorem republish_heard (pl : Plan) : Heard s (republish pl s) := by
  have h := republish_published pl s
  unfold planPublished at h
  rw [h]
  exact Heard.moved s _ _ _ _ _

theorem recomputeAuto_heard : Heard s (recomputeAuto s) := by
  unfold recomputeAuto
  split
  · exact Heard.refl s
  · dsimp only
    split
    · exact (republish_heard s _).trans (Heard.moved _ _ _ _ _ _)
    · exact (republish_heard s _).trans (carryEnd_heard _)
    · exact republish_heard s _
    · exact republish_heard s _

theorem newLogItem_heard (k : ItemKind) : Heard s (newLogItem k s) := by
  cases h : s.handover.state with
  | closed => rw [newLogItem_closed (.inl h)]; exact Heard.refl s
  | offeredHold => rw [newLogItem_closed (.inr h)]; exact Heard.refl s
  | evaluating =>
    rw [newLogItem_evaluating h]
    split
    · exact Heard.moved s _ _ _ _ _
    · exact Heard.refl s
  | offeredAuto => rw [newLogItem_offeredAuto h]; exact recomputeAuto_heard s
  | confirmed =>
    rw [newLogItem_confirmed h]
    split
    · exact Heard.moved s _ _ _ _ _
    · exact Heard.refl s

end Hearing

/-! ### The end of the scheduler -/

/-- The scheduler's own end leaves it ENDED and the record in DONE. -/
theorem endOwn_left (r : EndReason) (s : State) :
    (endOwn r s).sched = { s.sched with state := .ended, remaining := 0, endReason := r } ∧ (endOwn r s).lpr.phase = .done := by
  obtain ⟨v, hv, hu⟩ := endOwn_ended s r
  rw [hu]
  unfold partWroteDone at hv
  split at hv
  case isTrue h =>
    subst hv
    exact ⟨rfl, h⟩
  case isFalse h =>
    obtain ⟨_, _, _, _, _, rfl, -, hsc, -⟩ := hv
    rw [if_neg (fun hx => Bool.false_ne_true hx.2)] at hsc
    exact ⟨hsc.1, rfl⟩

/-! ### A door opening -/

section Door

variable {s : State}

/-- The state with another sensing. -/
def State.sensed (s : State) (x : Sensing) : State := { s with sensing := x }

theorem request_sensed (o : Origin) (s : State) (x : Sensing) : request o (s.sensed x) = (request o s).sensed x := by
  refine Eq.trans ?_ (apply_ite (State.sensed · x) _ _ _).symm
  rfl

theorem notifyWrap_sensed (s : State) (x : Sensing) : notifyWrap (s.sensed x) = (notifyWrap s).sensed x := by
  have h := request_sensed .tally (raiseBoth .tallyTarget { s with freeze.notify := true }) x
  refine Eq.trans ?_ (apply_ite (State.sensed · x) _ _ _).symm
  rw [← h]
  rfl

/-- Sensing does not bear on an occurrence. -/
theorem deliver_sensed (src : Source) (inc : Nat) (s : State) (x : Sensing) :
    deliver src inc (s.sensed x) = (deliver src inc s).sensed x := by
  have h := notifyWrap_sensed { s with tallies := deliverAll src inc s.tallies } x
  refine Eq.trans ?_ (apply_ite (State.sensed · x) _ _ _).symm
  refine Eq.trans ?_ (congrArg _ (apply_ite (State.sensed · x) _ _ _).symm)
  rw [← h]
  rfl

/-- What the door's opening leaves of the scheduler and the record, once it has been counted. -/
theorem doorOpening_opened (s : State) : doorOpening .opened s = doorToSched (deliver .doorOpenings 1 s) := if_pos rfl

/-- The logger's part of a door change. -/
theorem doorToRecord_logged (h : s.logger = true) (d : Door) : ∃ o, itemTaken (if d = .opened then .doorOpen else .doorClose) none
      { s.outage with summary := { s.outage.summary with doorOpened := s.outage.summary.doorOpened || d == .opened } } o
    ∧ Heard { s with refs := { s.refs with door := some d }, outage := o } (doorToRecord d s) := by
  obtain ⟨o, ho, he⟩ := senseItem_taken { s with
    refs := { s.refs with door := some d }
    outage := { s.outage with summary := { s.outage.summary with doorOpened := s.outage.summary.doorOpened || d == .opened } } }
    (if d = .opened then .doorOpen else .doorClose) none
  refine ⟨o, ho, ?_⟩
  rw [show doorToRecord d s = _ from if_pos h, he]
  exact newLogItem_heard _ _

theorem doorToRecord_unchained (h : s.outage.chainOpen = false) (d : Door) :
    doorToRecord d s = { s with refs := { s.refs with door := some d } } := by
  have hl : ¬s.logger = true := by
    rw [State.logger, h]
    exact nofun
  exact (if_neg hl).trans (if_neg (by rw [h]; exact nofun))

theorem doorToRecord_chained (hl : s.logger = false) (h : s.outage.chainOpen = true) (d : Door) : doorToRecord d s = s :=
  (if_neg (Bool.eq_false_iff.mp hl)).trans (if_pos h)

theorem doorToRecord_unlogged (hl : s.logger = false) (d : Door) : ∃ rf, doorToRecord d s = { s with refs := rf } := by
  cases hc : s.outage.chainOpen with
  | false => exact ⟨_, doorToRecord_unchained hc d⟩
  | true => exact ⟨_, doorToRecord_chained hl hc d⟩

/-- In DONE the record's part of a door change leaves the record and the scheduler alone. -/
theorem doorToRecord_done (h : s.lpr.phase = .done) (d : Door) :
    (doorToRecord d s).lpr = s.lpr ∧ (doorToRecord d s).sched = s.sched := by
  cases hl : s.logger with
  | false =>
    obtain ⟨_, he⟩ := doorToRecord_unlogged hl d
    rw [he]
    exact ⟨rfl, rfl⟩
  | true =>
    obtain ⟨_, -, _, _, _, _, _, _, _, _, _, _, _, _, _, _, _, _, _, he, -, hd⟩ := doorToRecord_logged hl d
    rw [he]
    exact hd h

end Door

/-- What a door change leaves alone, with the door that it has put into sensing. -/
structure DoorBystanders (s t : State) : Prop where
  door : t.sensing.door = s.sensing.door
  journal : t.journal = s.journal
  settings : t.settings = s.settings
  mains : t.mains = s.mains
  panelPort : t.panelPort = s.panelPort
  drivePort : t.drivePort = s.drivePort
  flushedCopy : t.flushedCopy = s.flushedCopy

namespace DoorBystanders

variable {s t u : State}

theorem trans (h : DoorBystanders s t) (k : DoorBystanders t u) : DoorBystanders s u :=
  ⟨k.door.trans h.door, k.journal.trans h.journal, k.settings.trans h.settings, k.mains.trans h.mains,
    k.panelPort.trans h.panelPort, k.drivePort.trans h.drivePort, k.flushedCopy.trans h.flushedCopy⟩

theorem of_steady (h : Steady s t) : DoorBystanders s t := by
  obtain ⟨_, _, _, _, _, _, _, _, _, _, _, rfl⟩ := h
  exact ⟨rfl, rfl, rfl, rfl, rfl, rfl, rfl⟩

theorem of_heard (h : Heard s t) : DoorBystanders s t := by
  obtain ⟨_, _, _, _, _, _, _, _, _, _, _, _, _, _, _, _, _, rfl, -⟩ := h
  exact ⟨rfl, rfl, rfl, rfl, rfl, rfl, rfl⟩

theorem of_record (s : State) (d : Door) : DoorBystanders s (doorToRecord d s) := by
  cases hl : s.logger with
  | false =>
    obtain ⟨_, he⟩ := doorToRecord_unlogged hl d
    rw [he]
    exact ⟨rfl, rfl, rfl, rfl, rfl, rfl, rfl⟩
  | true =>
    obtain ⟨o, -, hh⟩ := doorToRecord_logged hl d
    exact trans (t := { s with refs := { s.refs with door := some d }, outage := o }) ⟨rfl, rfl, rfl, rfl, rfl, rfl, rfl⟩
      (of_heard hh)

theorem serve (h : DoorBystanders s t) : DoorBystanders s (serve t) := by
  obtain ⟨_, _, he⟩ := serve_eq t
  rw [he]
  exact h.trans ⟨rfl, rfl, rfl, rfl, rfl, rfl, rfl⟩

end DoorBystanders

theorem hpm_opened {s : State} (h : s.sensing.door = some .opened) : s.hpm = false := by
  simp [State.hpm, h]

/-! ### The opening as a whole -/

section Opening

variable (s : State)

/-- The door taken into sensing and its opening counted. -/
def openingCounted : State := doorOpening .opened { s with sensing := { s.sensing with door := some .opened } }

theorem openingCounted_steady : Steady { s with sensing := { s.sensing with door := some .opened } } (openingCounted s) := by
  unfold openingCounted
  rw [doorOpening_opened]
  exact (deliver_steady _ _ _).trans (Steady.ite (endOwn_steady _ _) (Steady.refl _))

variable {s}

/-- A running scheduler has ended with the reason DOOR. -/
theorem openingCounted_timed (h : s.sched.state.timed = true) : (openingCounted s).sched.state = .ended
    ∧ (openingCounted s).sched.endReason = .door ∧ (openingCounted s).lpr.phase = .done := by
  have hs : (deliver .doorOpenings 1 { s with sensing := { s.sensing with door := some .opened } }).sched = s.sched :=
    deliver_sched _ _ _
  have he : openingCounted s = endOwn .door (deliver .doorOpenings 1 { s with sensing := { s.sensing with door := some .opened } }) :=
    (doorOpening_opened _).trans (if_pos (by rw [hs]; exact h))
  obtain ⟨hsc, hph⟩ := endOwn_left .door (deliver .doorOpenings 1 { s with sensing := { s.sensing with door := some .opened } })
  rw [he, hsc]
  exact ⟨rfl, rfl, hph⟩

theorem openingCounted_untimed (h : s.sched.state.timed = false) :
    openingCounted s = (deliver .doorOpenings 1 s).sensed { s.sensing with door := some .opened } := by
  have hs : (deliver .doorOpenings 1 { s with sensing := { s.sensing with door := some .opened } }).sched = s.sched :=
    deliver_sched _ _ _
  refine (doorOpening_opened _).trans ((if_neg (by rw [hs, h]; exact nofun)).trans ?_)
  exact deliver_sensed _ _ s _

theorem doorChangeTo_opened (s : State) :
    doorChangeTo .opened s = raiseBoth .doorChanged (doorToRecord .opened (openingCounted s)) := rfl

/-- What the record's part of an opening leaves, for the logger. -/
theorem opening_logged (h : s.logger = true) : (doorToRecord .opened (openingCounted s)).refs.door = some .opened
    ∧ (doorToRecord .opened (openingCounted s)).outage.summary.doorOpened = true
    ∧ (s.outage.log.length < 24 → (doorToRecord .opened (openingCounted s)).outage.log =
        s.outage.log ++ [⟨.doorOpen, s.outage.summary.duration, none⟩]) := by
  obtain ⟨_, _, _, _, _, _, _, _, _, _, _, hc⟩ := openingCounted_steady s
  have hl : (openingCounted s).logger = true := by rw [hc]; exact h
  obtain ⟨o, ho, _, _, _, _, _, _, _, _, _, _, _, _, _, _, _, _, _, he, -⟩ := doorToRecord_logged hl .opened
  rw [he]
  refine ⟨rfl, ?_, fun h24 => ?_⟩
  · obtain ⟨_, _, rfl⟩ := itemTaken_eq ho
    exact Bool.or_true _
  · have h24' : (openingCounted s).outage.log.length < 24 := by rw [hc]; exact h24
    rw [ho.1 h24', hc]
    rfl

/-- What it leaves without a chain. -/
theorem opening_unchained (h : s.outage.chainOpen = false) : doorToRecord .opened (openingCounted s) =
    { openingCounted s with refs := { s.refs with door := some .opened } } := by
  obtain ⟨_, _, _, _, _, _, _, _, _, _, _, hc⟩ := openingCounted_steady s
  rw [doorToRecord_unchained (by rw [hc]; exact h), hc]

end Opening

/-! ### Changes and first adoptions -/

section Accept

variable {d : Door} {s : State}

theorem acceptDoor_first (h : s.sensing.door = none) : acceptDoor d s =
    if s.logger then catchUpDoor { s with sensing := { s.sensing with door := some d } }
    else { s with sensing := { s.sensing with door := some d } } := by
  unfold acceptDoor
  rw [h]
  rfl

theorem acceptDoor_same (h : s.sensing.door = some d) : acceptDoor d s = s := by
  simp only [acceptDoor, h, if_true]

theorem acceptDoor_change (h : s.sensing.door ≠ none) (hd : s.sensing.door ≠ some d) : acceptDoor d s = doorChangeTo d s := by
  cases hs : s.sensing.door with
  | none => exact absurd hs h
  | some e =>
    have hne : d ≠ e := by
      rintro rfl
      exact hd hs
    simp only [acceptDoor, hs, if_neg hne]

/-- A closing without a chain: the field, the reference and DOOR_CHANGED. -/
theorem doorChangeTo_closed (h : s.outage.chainOpen = false) : doorChangeTo .closed s = { s with
    sensing := { s.sensing with door := some .closed }, refs := { s.refs with door := some .closed }
    panelAlerts := s.panelAlerts.add .doorChanged, driveAlerts := s.driveAlerts.add .doorChanged } := by
  have ho : doorOpening .closed { s with sensing := { s.sensing with door := some .closed } } =
      { s with sensing := { s.sensing with door := some .closed } } := if_neg nofun
  unfold doorChangeTo
  rw [ho, doorToRecord_unchained (by exact h)]
  rfl

end Accept

/-- Settles O55: the first adoption by `catchUpDoor_caughtUp`, a change by `doorChangeTo_handedOn`, the opening by its steps. -/
theorem doorChangesAreHandedOn : Obligations.DoorChangesAreHandedOn := by
  intro isOpen d s hr hd
  have hlevel : Door.ofLevel isOpen = d := by
    rw [hd]
    cases isOpen <;> rfl
  have hfirst : exec (.doorFirstAdoption isOpen) s = .next (serve (acceptDoor d s)) := by
    rw [← hlevel]
    exact congrArg _ (if_pos hr)
  have hchange : exec (.doorChange isOpen) s = .next (serve (acceptDoor d s)) := by
    rw [← hlevel]
    exact congrArg _ (if_pos hr)
  have hcatch := catchUpDoor_caughtUp { s with sensing := { s.sensing with door := some d } }
  rw [hfirst, hchange]
  refine ⟨fun h hl => ?_, fun h hl hrf => ?_, fun h hl h1 h2 => ?_, fun h => by rw [acceptDoor_same h],
    fun h1 h2 => ⟨_, doorChangeTo_handedOn s d, by rw [acceptDoor_change h1 h2]⟩, fun h ho hc => ?_, fun h ho => ?_⟩
  · rw [acceptDoor_first h, hl]
    rfl
  · rw [acceptDoor_first h, if_pos hl, (hcatch.2 d rfl).1 hrf]
  · exact ⟨_, (hcatch.2 d rfl).2 h1 h2, by rw [acceptDoor_first h, if_pos hl]⟩
  · subst ho
    obtain rfl : d = .closed := hd
    rw [acceptDoor_change (by rw [h]; nofun) (by rw [h]; nofun), doorChangeTo_closed hc]
  · subst ho
    obtain rfl : d = .opened := hd
    rw [acceptDoor_change (by rw [h]; nofun) (by rw [h]; nofun), doorChangeTo_opened]
    obtain ⟨_, _, hserve⟩ := serve_eq (raiseBoth .doorChanged (doorToRecord .opened (openingCounted s)))
    have hst := openingCounted_steady s
    have hby : DoorBystanders { s with sensing := { s.sensing with door := some .opened } }
        (serve (raiseBoth .doorChanged (doorToRecord .opened (openingCounted s)))) :=
      (((DoorBystanders.of_steady hst).trans (.of_record _ .opened)).trans (.of_steady (raiseBoth_steady _ _))).serve
    refine ⟨_, rfl, hby.door, hpm_opened hby.door, ?_, ?_, fun ht => ?_, fun ht hl => ?_, fun hl => ?_, fun hl h24 => ?_,
      fun hc => ?_, hby.journal, hby.settings, hby.mains, hby.panelPort, hby.drivePort, hby.flushedCopy⟩
    · rw [hserve]
      exact has_add_self _ _
    · rw [hserve]
      exact has_add_self _ _
    · obtain ⟨h1, h2, h3⟩ := openingCounted_timed ht
      obtain ⟨hlpr, hsched⟩ := doorToRecord_done h3 .opened
      rw [hserve]
      refine ⟨(congrArg Sched.state hsched).trans h1, (congrArg Sched.endReason hsched).trans h2, (congrArg Lpr.phase hlpr).trans h3⟩
    · have hu := openingCounted_untimed ht
      obtain ⟨_, _, _, _, _, _, _, _, _, _, _, hc⟩ := hst
      obtain ⟨_, he⟩ := doorToRecord_unlogged (s := openingCounted s) (by rw [hc]; exact hl) .opened
      obtain ⟨_, _, _, _, _, hdel⟩ := deliver_occurred .doorOpenings 1 s
      rw [hserve, he, hu]
      exact ⟨rfl, by rw [hdel]; rfl⟩
    · rw [hserve]
      exact ⟨(opening_logged hl).1, (opening_logged hl).2.1⟩
    · rw [hserve]
      exact (opening_logged hl).2.2 h24
    · rw [hserve, opening_unchained hc]
      obtain ⟨_, _, _, _, _, _, _, _, _, _, _, he⟩ := hst
      rw [he]
      exact ⟨rfl, hc, rfl, rfl⟩

end Sys2Proof.Machine
end

section
/-! PROOFS. The drum (spec section 4.3; O56). -/

set_option Elab.async false

namespace Sys2Proof.Machine

section Drum

variable {q : Quad} {s : State}

/-! ### Which case an accepted combination is -/

theorem acceptQuad_first (h : s.sensing.quad = none) : acceptQuad q s =
    if s.logger then catchUpQuad { s with sensing := { s.sensing with quad := some q } }
    else { s with sensing := { s.sensing with quad := some q } } := by
  unfold acceptQuad
  rw [h]
  rfl

theorem acceptQuad_step {a : Quad} {d : Dir} (h : s.sensing.quad = some a) (hm : quadMove a q = .step d) :
    acceptQuad q s = quadStepTo q d s := by
  simp only [acceptQuad, h, hm]

theorem acceptQuad_opposite {a : Quad} (h : s.sensing.quad = some a) (hm : quadMove a q = .opposite) :
    acceptQuad q s = quadJumpTo q s := by
  simp only [acceptQuad, h, hm]

/-! ### A step -/

/-- The occurrences of a step: a reversal, then a full turn. -/
def stepOccurs (d : Dir) (turns : Prop) [Decidable turns] (s : State) : State :=
  if turns then deliver .drumTurns 1 (if s.sensing.prevDir = some d.opposite then deliver .reversals 1 s else s)
  else if s.sensing.prevDir = some d.opposite then deliver .reversals 1 s else s

theorem stepOccurs_occurred (d : Dir) (turns : Prop) [Decidable turns] (s : State) : Occurred s (stepOccurs d turns s) := by
  have h : Occurred s (if s.sensing.prevDir = some d.opposite then deliver .reversals 1 s else s) :=
    Occurred.guarded (deliver_occurred _ _ s)
  unfold stepOccurs
  split
  · exact h.trans (deliver_occurred _ _ _)
  · exact h

/-- Where the accumulator comes to by a step. -/
def accAfter (d : Dir) (acc : Int) : Int := acc + (if d = .cw then 1 else -1)

/-- Sensing after a step that no logger records. -/
def steppedSensing (q : Quad) (d : Dir) (x : Sensing) : Sensing :=
  { x with
    quad := some q, prevDir := some d
    acc := if accAfter d x.acc = 4 ∨ accAfter d x.acc = -4 then 0 else accAfter d x.acc }

/-- The state after a step's occurrences, with sensing moved. -/
def stepped (q : Quad) (d : Dir) (s : State) : State :=
  (stepOccurs d (accAfter d s.sensing.acc = 4 ∨ accAfter d s.sensing.acc = -4) s).sensed (steppedSensing q d s.sensing)

/-- A step once a reversal has been delivered. -/
def stepAfterReversal (q : Quad) (d : Dir) (acc : Int) (s : State) : State :=
  let s3 := { s with sensing.prevDir := some d, sensing.acc := (accStep acc d).1 }
  let s4 := if (accStep acc d).2 then deliver .drumTurns 1 s3 else s3
  quadToRefs q (if s4.logger then stepToRecord d s4 else s4)

/-- What a step delivers sees none of what it does to sensing. -/
theorem quadStepTo_eq (q : Quad) (d : Dir) (s : State) : quadStepTo q d s =
    quadToRefs q (if s.logger then stepToRecord d (stepped q d s) else stepped q d s) := by
  have hrev : (if s.sensing.prevDir = some d.opposite then
        deliver .reversals 1 { s with sensing := { s.sensing with quad := some q } }
      else { s with sensing := { s.sensing with quad := some q } }) =
      (if s.sensing.prevDir = some d.opposite then deliver .reversals 1 s else s).sensed { s.sensing with quad := some q } := by
    refine Eq.trans ?_ (apply_ite (State.sensed · _) _ _ _).symm
    rw [← deliver_sensed]
    rfl
  have hlog : (stepped q d s).logger = s.logger := by
    obtain ⟨_, _, _, _, _, h⟩ := stepOccurs_occurred d (accAfter d s.sensing.acc = 4 ∨ accAfter d s.sensing.acc = -4) s
    unfold stepped
    rw [h]
    rfl
  have hturn : (if (accStep s.sensing.acc d).2 then
        deliver .drumTurns 1 ((if s.sensing.prevDir = some d.opposite then deliver .reversals 1 s else s).sensed
          { s.sensing with quad := some q, prevDir := some d, acc := (accStep s.sensing.acc d).1 })
      else (if s.sensing.prevDir = some d.opposite then deliver .reversals 1 s else s).sensed
          { s.sensing with quad := some q, prevDir := some d, acc := (accStep s.sensing.acc d).1 }) = stepped q d s := by
    unfold stepped stepOccurs steppedSensing accStep
    by_cases h : accAfter d s.sensing.acc = 4 ∨ accAfter d s.sensing.acc = -4
    · rw [if_pos h, if_pos h, deliver_sensed]
      unfold accAfter at h
      rw [if_pos h]
      rfl
    · rw [if_neg h, if_neg h]
      unfold accAfter at h
      rw [if_neg h]
      rfl
  rw [← hlog, ← hturn]
  have hstep : quadStepTo q d s = stepAfterReversal q d s.sensing.acc (if s.sensing.prevDir = some d.opposite then
        deliver .reversals 1 { s with sensing := { s.sensing with quad := some q } }
      else { s with sensing := { s.sensing with quad := some q } }) := rfl
  rw [hstep, hrev]
  rfl

theorem quadToRefs_eq (q : Quad) (s : State) : quadToRefs q s =
    { s with refs := { s.refs with quad := if s.updatesRefs then some q else s.refs.quad } } := by
  unfold quadToRefs
  split <;> rfl

/-- A step as a whole. -/
theorem quadStepTo_moved (q : Quad) (d : Dir) (s : State) : quadStepTo q d s = { stepped q d s with
    sensing := { steppedSensing q d s.sensing with
      burst := if s.logger then some (min 65535 (s.sensing.burst.getD 0 + 1)) else s.sensing.burst }
    outage := { s.outage with
      summary := if s.logger then s.outage.summary.addStep d else s.outage.summary }
    refs := { s.refs with quad := if s.logger = true ∨ s.outage.chainOpen = false then some q else s.refs.quad } } := by
  obtain ⟨_, _, _, _, _, h⟩ := stepOccurs_occurred d (accAfter d s.sensing.acc = 4 ∨ accAfter d s.sensing.acc = -4) s
  rw [quadStepTo_eq]
  simp only [← updatesRefs_iff]
  unfold stepped
  rw [h]
  rw [quadToRefs_eq]
  by_cases hl : s.logger = true
  · simp only [hl, if_true]
    rfl
  · simp only [hl, if_false, Bool.false_eq_true]
    rfl

/-! ### An illegal jump -/

theorem quadJumpTo_logged (h : s.logger = true) : quadJumpTo q s = jumpToRecord { s with
    sensing := { s.sensing with quad := some q, quadFaults := min 255 (s.sensing.quadFaults + 1) }
    refs := { s.refs with quad := some q } } := by
  have hu : s.updatesRefs = true := (updatesRefs_iff s).mpr (.inl h)
  have hq : quadToRefs q { s with
      sensing := { s.sensing with quad := some q, quadFaults := min 255 (s.sensing.quadFaults + 1) } } = { s with
      sensing := { s.sensing with quad := some q, quadFaults := min 255 (s.sensing.quadFaults + 1) }
      refs := { s.refs with quad := some q } } := if_pos hu
  unfold quadJumpTo
  rw [hq]
  exact if_pos h

theorem quadJumpTo_unlogged (h : s.logger = false) : quadJumpTo q s = { s with
    sensing := { s.sensing with quad := some q, quadFaults := min 255 (s.sensing.quadFaults + 1) }
    refs := if s.outage.chainOpen = false then { s.refs with quad := some q } else s.refs } := by
  have hq : quadToRefs q { s with
      sensing := { s.sensing with quad := some q, quadFaults := min 255 (s.sensing.quadFaults + 1) } } = { s with
      sensing := { s.sensing with quad := some q, quadFaults := min 255 (s.sensing.quadFaults + 1) }
      refs := if s.outage.chainOpen = false then { s.refs with quad := some q } else s.refs } := by
    rw [quadToRefs_eq]
    have hu : s.updatesRefs = true ↔ s.outage.chainOpen = false := by
      rw [updatesRefs_iff, h]
      exact or_iff_right Bool.false_ne_true
    by_cases hc : s.outage.chainOpen = false
    · rw [if_pos hc, if_pos (by exact hu.mpr hc)]
    · rw [if_neg hc, if_neg (by exact mt hu.mp hc)]
  unfold quadJumpTo
  rw [hq]
  exact if_neg (by exact Bool.eq_false_iff.mp h)

end Drum

/-- Settles O56: the first adoption by `catchUpQuad_caughtUp`, a step by `quadStepTo_moved`, a jump by `jumpToRecord_recorded`. -/
theorem drumMovesAreTracked : Obligations.DrumMovesAreTracked := by
  intro q s hr
  have hfirst : exec (.quadFirstAdoption q) s = .next (serve (acceptQuad q s)) := congrArg _ (if_pos hr)
  have hstep : exec (.quadStep q) s = .next (serve (acceptQuad q s)) := congrArg _ (if_pos hr)
  have hjump : exec (.quadIllegalJump q) s = .next (serve (acceptQuad q s)) := congrArg _ (if_pos hr)
  rw [hfirst, hstep, hjump]
  refine ⟨fun h hl => ?_, fun h hl v hv => ?_, fun a d acc v h hm hacc hv => ?_, fun a h hm hl => ?_, fun a h hm hl => ?_,
    by decide, fun n hb h24 => ?_⟩
  · rw [acceptQuad_first h, hl]
    rfl
  · have hcatch := (catchUpQuad_caughtUp { s with sensing := { s.sensing with quad := some q } }).2 q v rfl hv
    rw [acceptQuad_first h, if_pos hl]
    refine ⟨fun hrf => by rw [hcatch.1 hrf], fun a d ha hm => ?_, fun a ha hm => ⟨_, hcatch.2.2 a ha hm, rfl⟩⟩
    rw [hcatch.2.1 a d ha hm, hv]
  · subst hacc hv
    obtain ⟨_, _, hserve⟩ := serve_eq (quadStepTo q d s)
    rw [acceptQuad_step h hm]
    refine ⟨_, rfl, ?_⟩
    rw [hserve, quadStepTo_moved]
    refine ⟨rfl, rfl, fun hl => ?_, rfl, ?_⟩
    · simp only [hl, if_true]
      exact ⟨rfl, rfl⟩
    · obtain ⟨_, _, _, _, _, ho⟩ := stepOccurs_occurred d (accAfter d s.sensing.acc = 4 ∨ accAfter d s.sensing.acc = -4) s
      unfold stepped
      rw [ho]
      exact ⟨rfl, rfl, rfl, rfl, rfl, rfl, rfl, rfl⟩
  · rw [acceptQuad_opposite h hm, quadJumpTo_unlogged hl]
    exact ⟨_, rfl, rfl⟩
  · rw [acceptQuad_opposite h hm, quadJumpTo_logged hl]
    exact ⟨_, jumpToRecord_recorded _, rfl⟩
  · obtain ⟨o, ho, he⟩ := (closeBurst_closed s).2 n hb
    obtain ⟨_, _, _, _, _, _, _, _, _, _, _, _, _, _, _, _, _, hh, hburst, -⟩ :=
      newLogItem_heard { s with sensing := { s.sensing with burst := none }, outage := o } .drumMove
    obtain ⟨_, _, hserve⟩ := serve_eq (closeBurst s)
    refine ⟨serve (closeBurst s), congrArg _ (if_pos hr), ?_⟩
    rw [hserve, he, hh]
    exact ⟨hburst rfl, congrArg Outage.log (ho.1 h24), rfl, rfl, rfl, rfl, rfl⟩

end Sys2Proof.Machine
end

section
/-! PROOFS. A sample of the outage watch (spec section 6.3; O59): what each part of it does to the outage record, the references and
the sequencer, and the items that it offers to the log. -/

set_option Elab.async false

namespace Sys2Proof.Machine

/-! ### At most one item -/

/-- An item that may be there, as its kind and amount. -/
abbrev OfferedItem := Option (ItemKind × Option Nat)

/-- The outage record once it has been offered an item, or none. -/
def Outage.took (o : Outage) (i : OfferedItem) : Outage := { o with
  log := match i with
    | none => o.log
    | some x => (offerItem x.1 o.summary.duration x.2 o.log).1
  summary := { o.summary with
    itemsLost := match i with
      | none => o.summary.itemsLost
      | some x => if (offerItem x.1 o.summary.duration x.2 o.log).2 then min 255 (o.summary.itemsLost + 1)
          else o.summary.itemsLost } }

theorem appendItem_took (k : ItemKind) (a : Option Nat) (s : State) :
    appendItem k a s = { s with outage := s.outage.took (some (k, a)) } := rfl

/-- The item as the log holds it. -/
def OfferedItem.logged (i : OfferedItem) (t : Nat) : List LogItem := (i.map fun x => ⟨x.1, t, x.2⟩).toList

/-- With room in the log an item joins at its end and none is lost. -/
theorem Outage.took_room {o : Outage} (i : OfferedItem) (h : o.log.length < 24) :
    (o.took i).log = o.log ++ i.logged o.summary.duration ∧ (o.took i).summary.itemsLost = o.summary.itemsLost := by
  cases i with
  | none => exact ⟨(List.append_nil _).symm, rfl⟩
  | some x =>
    have hx : offerItem x.1 o.summary.duration x.2 o.log = (o.log ++ [⟨x.1, o.summary.duration, x.2⟩], false) := if_pos h
    simp only [Outage.took, hx]
    exact ⟨rfl, rfl⟩

theorem OfferedItem.logged_length (i : OfferedItem) (t : Nat) : (i.logged t).length ≤ 1 := by
  cases i <;> simp [OfferedItem.logged]

/-! ### The parts of a sample -/

/-- A reading equal or opposite to its reference: the open burst closes. -/
def stillMove : Option QuadMove → Bool
  | some .same | some .opposite => true
  | some (.step _) | none => false

/-- The burst after a reading: a step joins it. -/
def burstAfter (b : Option Nat) : Option QuadMove → Option Nat
  | some (.step _) => burstStep b
  | some .same | some .opposite | none => b

/-- The summary after a reading of the drum. -/
def summaryAfter (m : Summary) : Option QuadMove → Summary
  | some (.step d) => m.addStep d
  | some .opposite => m.addAmbiguous
  | some .same | none => m

/-- The item of a burst that closes. -/
def burstItem (b : Option Nat) : OfferedItem := b.map fun n => (.drumMove, some n)

/-- The outage record after the burst has been dealt with. -/
def Outage.afterBurst (o : Outage) (m : Option QuadMove) (b : Option Nat) : Outage :=
  o.took (if stillMove m then burstItem b else none)

/-- The outage record after the door's part, with `ms` milliseconds open to be counted. -/
def Outage.afterDoor (o : Outage) (change : Bool) (d : Door) (ms : Nat) : Outage :=
  ({ o with
    summary := { o.summary with
      doorOpened := o.summary.doorOpened || (change && d == .opened)
      doorOpenSec := if d = .opened then min 65535 (o.summary.doorOpenSec + ms / 1000) else o.summary.doorOpenSec } } : Outage).took
    (if change then some (if d = .opened then .doorOpen else .doorClose, none) else none)

/-- The outage record after the drum's part. -/
def Outage.afterQuad (o : Outage) (m : Option QuadMove) : Outage :=
  ({ o with summary := summaryAfter o.summary m } : Outage).took
    (if m = some .opposite then some (.motionUncertain, none) else none)

/-- The outage record after the thermistor's part: a valid code's temperature, or the item of a fault that begins. -/
def Outage.afterTherm (o : Outage) (valid : Bool) (t : Int) (fault : Bool) : Outage :=
  ({ o with summary := { o.summary with lastTemp := if valid then some t else o.summary.lastTemp } } : Outage).took
    (if !valid && !fault then some (.sensorFault, none) else none)

/-- The outage record after the backup supply's part. -/
def Outage.afterVbk (o : Outage) (low : Bool) : Outage :=
  ({ o with summary := { o.summary with backupLow := o.summary.backupLow || low } } : Outage).took
    (if low && !o.summary.backupLow then some (.backupLow, none) else none)

section Parts

variable (s : State)

theorem closeSeqBurst_eq : closeSeqBurst s =
    { s with seq := { s.seq with burst := none }, outage := s.outage.took (burstItem s.seq.burst) } := by
  cases h : s.seq.burst with
  | none =>
    have hs : { s.seq with burst := none } = s.seq := by rw [← h]
    simp only [closeSeqBurst, h]
    rw [hs]
    rfl
  | some n =>
    simp only [closeSeqBurst, h]
    rfl

theorem sampleBurst_eq (m : Option QuadMove) : sampleBurst m s = { s with
    seq := { s.seq with burst := if stillMove m then none else s.seq.burst }
    outage := s.outage.afterBurst m s.seq.burst } := by
  unfold sampleBurst
  split
  · exact closeSeqBurst_eq s
  · exact closeSeqBurst_eq s
  · rfl
  · rfl

theorem sampleDoor_eq (d : Door) (interval : Nat) : sampleDoor d interval s = { s with
    refs := { s.refs with door := some d }
    seq := { s.seq with doorRem := if d = .opened then (s.seq.doorRem + interval) % 1000 else s.seq.doorRem }
    outage := s.outage.afterDoor (sampleDoorChange s.refs d) d (s.seq.doorRem + interval) } := by
  unfold sampleDoor
  cases hc : sampleDoorChange s.refs d with
  | false =>
    cases d with
    | opened => simp [Outage.afterDoor, Outage.took]
    | closed => simp [Outage.afterDoor, Outage.took]
  | true =>
    cases d with
    | opened => rfl
    | closed => simp [Outage.afterDoor, Outage.took, appendItem]

theorem sampleQuad_eq (m : Option QuadMove) (q : Quad) : sampleQuad m q s = { s with
    refs := { s.refs with quad := some q }, seq := { s.seq with burst := burstAfter s.seq.burst m }
    outage := s.outage.afterQuad m } := by
  unfold sampleQuad
  split <;> rfl

theorem sampleTherm_eq (code : BitVec 10) : sampleTherm code s = { s with
    refs := { s.refs with temp := if codeValid code then some (temperatureOf s.settings.temp code) else s.refs.temp }
    seq := { s.seq with sampleFault := !codeValid code }
    outage := s.outage.afterTherm (codeValid code) (temperatureOf s.settings.temp code) s.seq.sampleFault } := by
  unfold sampleTherm
  cases hv : codeValid code with
  | true => rfl
  | false =>
    cases hf : s.seq.sampleFault with
    | true =>
      have hs : { s.seq with sampleFault := true } = s.seq := by rw [← hf]
      rw [if_neg nofun, if_pos rfl, Bool.not_false, hs]
      rfl
    | false => rfl

theorem sampleVbk_eq (mv : Nat) : sampleVbk mv s = { s with
    seq := { s.seq with lastVbk := some mv }, outage := s.outage.afterVbk (decide (mv < s.seq.low)) } := by
  unfold sampleVbk
  by_cases hl : mv < s.seq.low
  · cases hb : s.outage.summary.backupLow with
    | true =>
      have hs : { s.outage.summary with backupLow := true } = s.outage.summary := by rw [← hb]
      rw [if_neg (fun h => absurd h.2 nofun), decide_eq_true hl]
      unfold Outage.afterVbk
      rw [hb, Bool.true_or, hs]
      rfl
    | false => simp [hl, hb, Outage.afterVbk, Outage.took, appendItem]
  · simp [hl, Outage.afterVbk, Outage.took]

theorem enterFlushing_eq : enterFlushing s = { s with
    outage := { s.outage.took (burstItem s.seq.burst) with
      summary := { (s.outage.took (burstItem s.seq.burst)).summary with
        quality := if s.outage.summary.quality = .known then .lowerBound else s.outage.summary.quality } }
    seq := { s.seq with
      burst := none, state := .flushing, backupFlush := !s.mainRunning
      flushCopy := some { (s.outage.took (burstItem s.seq.burst)).summary with
        quality := if s.outage.summary.quality = .known then .lowerBound else s.outage.summary.quality, flushed := true } } } := by
  unfold enterFlushing
  rw [closeSeqBurst_eq]
  rfl

end Parts

/-! ### The sample as a whole -/

section Sample

variable (s : State) (d : Door) (q : Quad) (code : BitVec 10) (mv : Nat)

/-- The outage record after the parts of a sample. -/
def State.sampledOutage : Outage :=
  ((((s.outage.afterBurst (sampleMove s.refs q) s.seq.burst).afterDoor (sampleDoorChange s.refs d) d
    (s.seq.doorRem + s.seq.interval)).afterQuad (sampleMove s.refs q)).afterTherm (codeValid code)
      (temperatureOf s.settings.temp code) s.seq.sampleFault).afterVbk (decide (mv < s.seq.low))

/-- The sample finds a move (R97). -/
def State.sampleMoved : Bool := sampleDoorChange s.refs d || ((sampleMove s.refs q).map QuadMove.isMove).getD false

/-- The pace and the quiet count after a sample. -/
def State.sampledPace : Nat × Nat := settledPace s.seq.pace s.seq.quiet (s.sampleMoved d q) (sampleTempChange code s)
  (s.sampledOutage d q code mv).summary.backupLow

/-- The sequencer after the parts of a sample. -/
def State.sampledSeq : Sequencer := { s.seq with
  burst := burstAfter (if stillMove (sampleMove s.refs q) then none else s.seq.burst) (sampleMove s.refs q)
  doorRem := if d = .opened then (s.seq.doorRem + s.seq.interval) % 1000 else s.seq.doorRem
  sampleFault := !codeValid code, lastVbk := some mv
  pace := (s.sampledPace d q code mv).1, quiet := (s.sampledPace d q code mv).2
  toSample := s.seq.base * 1000 / 2 ^ (s.sampledPace d q code mv).1 }

/-- The state after the parts of a sample. -/
def State.sampled : State := { s with
  refs := ⟨some d, some q, if codeValid code then some (temperatureOf s.settings.temp code) else s.refs.temp⟩
  seq := s.sampledSeq d q code mv
  outage := s.sampledOutage d q code mv }

theorem sampled_eq : settlePace (s.sampleMoved d q) (sampleTempChange code s) (sampleVbk mv (sampleTherm code
    (sampleQuad (sampleMove s.refs q) q (sampleDoor d s.seq.interval (sampleBurst (sampleMove s.refs q) s))))) =
      s.sampled d q code mv := by
  rw [sampleBurst_eq, sampleDoor_eq, sampleQuad_eq, sampleTherm_eq, sampleVbk_eq]
  rfl

theorem takeSample_eq : takeSample d q code mv s =
    if measuredMv mv < s.seq.floor then enterFlushing (s.sampled d q code (measuredMv mv)) else s.sampled d q code (measuredMv mv) := by
  rw [← sampled_eq]
  rfl

end Sample

end Sys2Proof.Machine
end

section
/-! PROOFS. What a sample of the outage watch leaves (spec section 6.3; O59), field by field. -/

set_option Elab.async false

namespace Sys2Proof.Machine

/-! ### The log -/

/-- The log of an outage record, with its timer and its count of lost items. -/
def Outage.Holds (o : Outage) (l : List LogItem) (t n : Nat) : Prop :=
  o.log = l ∧ o.summary.duration = t ∧ o.summary.itemsLost = n

theorem Outage.Holds.took {o : Outage} {l : List LogItem} {t n : Nat} (h : o.Holds l t n) (i : OfferedItem) (hl : l.length < 24) :
    (o.took i).Holds (l ++ i.logged t) t n := by
  obtain ⟨rfl, rfl, rfl⟩ := h
  obtain ⟨h1, h2⟩ := o.took_room i hl
  exact ⟨h1, rfl, h2⟩

theorem Outage.Holds.resummarized {o : Outage} {l : List LogItem} {t n : Nat} {x : Summary} (h : o.Holds l t n)
    (hd : x.duration = o.summary.duration) (hn : x.itemsLost = o.summary.itemsLost) : { o with summary := x }.Holds l t n :=
  ⟨h.1, hd.trans h.2.1, hn.trans h.2.2⟩

/-- `o'` is `o` but for its log and its summary. -/
def Outage.Recorded (o o' : Outage) : Prop := o' = { o with log := o'.log, summary := o'.summary }

theorem Outage.Recorded.resummarized {o o' : Outage} (h : o.Recorded o') (x : Summary) : o.Recorded { o' with summary := x } := by
  unfold Outage.Recorded at h ⊢
  rw [h]

theorem Outage.Recorded.took {o o' : Outage} (h : o.Recorded o') (i : OfferedItem) : o.Recorded (o'.took i) := by
  unfold Outage.Recorded at h ⊢
  rw [h]
  rfl

/-- The items of a sample's parts, in the order of R101. -/
def State.sampleItems (s : State) (d : Door) (q : Quad) (code : BitVec 10) (mv : Nat) : List LogItem :=
  (if stillMove (sampleMove s.refs q) then burstItem s.seq.burst else none : OfferedItem).logged s.outage.summary.duration
    ++ (if sampleDoorChange s.refs d then some (if d = .opened then .doorOpen else .doorClose, none) else none
        : OfferedItem).logged s.outage.summary.duration
    ++ (if sampleMove s.refs q = some .opposite then some (.motionUncertain, none) else none
        : OfferedItem).logged s.outage.summary.duration
    ++ (if !codeValid code && !s.seq.sampleFault then some (.sensorFault, none) else none
        : OfferedItem).logged s.outage.summary.duration
    ++ (if decide (mv < s.seq.low) && !s.outage.summary.backupLow then some (.backupLow, none) else none
        : OfferedItem).logged s.outage.summary.duration

theorem summaryAfter_kept (x : Summary) (m : Option QuadMove) :
    (summaryAfter x m).duration = x.duration ∧ (summaryAfter x m).itemsLost = x.itemsLost
    ∧ (summaryAfter x m).doorOpened = x.doorOpened ∧ (summaryAfter x m).doorOpenSec = x.doorOpenSec
    ∧ (summaryAfter x m).lastTemp = x.lastTemp ∧ (summaryAfter x m).backupLow = x.backupLow
    ∧ (summaryAfter x m).quality = x.quality ∧ (summaryAfter x m).matchKey = x.matchKey
    ∧ (summaryAfter x m).flushed = x.flushed := by
  unfold summaryAfter
  split <;> exact ⟨rfl, rfl, rfl, rfl, rfl, rfl, rfl, rfl, rfl⟩

section Sample

variable {s : State} {d : Door} {q : Quad} {code : BitVec 10} {mv : Nat}

theorem sampledOutage_backupLow : ((((s.outage.afterBurst (sampleMove s.refs q) s.seq.burst).afterDoor (sampleDoorChange s.refs d) d
    (s.seq.doorRem + s.seq.interval)).afterQuad (sampleMove s.refs q)).afterTherm (codeValid code)
      (temperatureOf s.settings.temp code) s.seq.sampleFault).summary.backupLow = s.outage.summary.backupLow := by
  obtain ⟨-, -, -, -, -, h, -⟩ := summaryAfter_kept ((s.outage.afterBurst (sampleMove s.refs q) s.seq.burst).afterDoor
    (sampleDoorChange s.refs d) d (s.seq.doorRem + s.seq.interval)).summary (sampleMove s.refs q)
  exact h

/-- Below 19 items a sample loses none. -/
theorem sampledOutage_holds (h : s.outage.log.length ≤ 18) : (s.sampledOutage d q code mv).Holds
    (s.outage.log ++ s.sampleItems d q code mv) s.outage.summary.duration s.outage.summary.itemsLost := by
  have hone (i : OfferedItem) : (i.logged s.outage.summary.duration).length ≤ 1 := i.logged_length _
  have h0 : s.outage.Holds s.outage.log s.outage.summary.duration s.outage.summary.itemsLost := ⟨rfl, rfl, rfl⟩
  have hroom (k : Nat) {l : List LogItem} (i : OfferedItem) (hl : l.length ≤ 18 + k) :
      (l ++ i.logged s.outage.summary.duration).length ≤ 18 + (k + 1) := by
    have := hone i
    rw [List.length_append]
    omega
  have h1 := h0.took (if stillMove (sampleMove s.refs q) then burstItem s.seq.burst else none) (by omega)
  have l1 := hroom 0 (if stillMove (sampleMove s.refs q) then burstItem s.seq.burst else none) h
  have h2 : (Outage.afterDoor _ (sampleDoorChange s.refs d) d (s.seq.doorRem + s.seq.interval)).Holds _ _ _ :=
    (h1.resummarized rfl rfl).took _ (by omega)
  have l2 := hroom 1 (if sampleDoorChange s.refs d then some (if d = .opened then .doorOpen else .doorClose, none) else none) l1
  obtain ⟨hd, hn, -⟩ := summaryAfter_kept ((s.outage.afterBurst (sampleMove s.refs q) s.seq.burst).afterDoor
    (sampleDoorChange s.refs d) d (s.seq.doorRem + s.seq.interval)).summary (sampleMove s.refs q)
  have h3 : (Outage.afterQuad _ (sampleMove s.refs q)).Holds _ _ _ := (h2.resummarized hd hn).took _ (by omega)
  have l3 := hroom 2 (if sampleMove s.refs q = some .opposite then some (.motionUncertain, none) else none) l2
  have h4 : (Outage.afterTherm _ (codeValid code) (temperatureOf s.settings.temp code) s.seq.sampleFault).Holds _ _ _ :=
    (h3.resummarized rfl rfl).took _ (by omega)
  have l4 := hroom 3 (if !codeValid code && !s.seq.sampleFault then some (.sensorFault, none) else none) l3
  have h5 : (Outage.afterVbk _ (decide (mv < s.seq.low))).Holds _ _ _ := (h4.resummarized rfl rfl).took _ (by omega)
  have hb := sampledOutage_backupLow (s := s) (d := d) (q := q) (code := code)
  unfold Outage.afterBurst at hb
  rw [hb] at h5
  unfold State.sampleItems
  simp only [← List.append_assoc]
  exact h5

theorem sampleItems_length : (s.sampleItems d q code mv).length ≤ 5 := by
  have hone (i : OfferedItem) : (i.logged s.outage.summary.duration).length ≤ 1 := i.logged_length _
  have h1 := hone (if stillMove (sampleMove s.refs q) then burstItem s.seq.burst else none)
  have h2 := hone (if sampleDoorChange s.refs d then some (if d = .opened then .doorOpen else .doorClose, none) else none)
  have h3 := hone (if sampleMove s.refs q = some .opposite then some (.motionUncertain, none) else none)
  have h4 := hone (if !codeValid code && !s.seq.sampleFault then some (.sensorFault, none) else none)
  have h5 := hone (if decide (mv < s.seq.low) && !s.outage.summary.backupLow then some (.backupLow, none) else none)
  unfold State.sampleItems
  simp only [List.length_append]
  omega

/-! ### The summary -/

theorem summaryAfter_drum {x y : Summary} (h1 : x.quarters = y.quarters) (h2 : x.net = y.net) (h3 : x.uncertain = y.uncertain)
    (m : Option QuadMove) : (summaryAfter x m).quarters = (summaryAfter y m).quarters ∧ (summaryAfter x m).net = (summaryAfter y m).net
      ∧ (summaryAfter x m).uncertain = (summaryAfter y m).uncertain := by
  unfold summaryAfter
  split
  · exact ⟨congrArg (min 65535 <| · + 1) h1, congrArg (netPlus · _) h2, h3⟩
  · exact ⟨congrArg (min 65535 <| · + 2) h1, h2, rfl⟩
  · exact ⟨h1, h2, h3⟩
  · exact ⟨h1, h2, h3⟩

variable (s d q code mv)

/-- The summary after the parts of a sample, but for its quality and the count of lost items. -/
structure SampledSummary (x : Summary) : Prop where
  duration : x.duration = s.outage.summary.duration
  doorOpened : x.doorOpened = (s.outage.summary.doorOpened || (sampleDoorChange s.refs d && d == .opened))
  doorOpenSec : x.doorOpenSec = if d = .opened then
      min 65535 (s.outage.summary.doorOpenSec + (s.seq.doorRem + s.seq.interval) / 1000) else s.outage.summary.doorOpenSec
  quarters : x.quarters = (summaryAfter s.outage.summary (sampleMove s.refs q)).quarters
  net : x.net = (summaryAfter s.outage.summary (sampleMove s.refs q)).net
  uncertain : x.uncertain = (summaryAfter s.outage.summary (sampleMove s.refs q)).uncertain
  lastTemp : x.lastTemp = if codeValid code then some (temperatureOf s.settings.temp code) else s.outage.summary.lastTemp
  backupLow : x.backupLow = (s.outage.summary.backupLow || decide (mv < s.seq.low))
  matchKey : x.matchKey = s.outage.summary.matchKey
  flushed : x.flushed = s.outage.summary.flushed

theorem sampledOutage_summary : SampledSummary s d q code mv (s.sampledOutage d q code mv).summary := by
  obtain ⟨h1, -, h3, h4, h5, h6, -, h8, h9⟩ := summaryAfter_kept ((s.outage.afterBurst (sampleMove s.refs q) s.seq.burst).afterDoor
    (sampleDoorChange s.refs d) d (s.seq.doorRem + s.seq.interval)).summary (sampleMove s.refs q)
  obtain ⟨hq, hn, hu⟩ := summaryAfter_drum (x := ((s.outage.afterBurst (sampleMove s.refs q) s.seq.burst).afterDoor
    (sampleDoorChange s.refs d) d (s.seq.doorRem + s.seq.interval)).summary) (y := s.outage.summary) rfl rfl rfl (sampleMove s.refs q)
  exact {
    duration := h1
    doorOpened := h3
    doorOpenSec := h4
    quarters := hq
    net := hn
    uncertain := hu
    lastTemp := congrArg (if codeValid code then some (temperatureOf s.settings.temp code) else ·) h5
    backupLow := congrArg (· || decide (mv < s.seq.low)) h6
    matchKey := h8
    flushed := h9 }

theorem sampledOutage_quality : (s.sampledOutage d q code mv).summary.quality = s.outage.summary.quality := by
  obtain ⟨-, -, -, -, -, -, h, -⟩ := summaryAfter_kept ((s.outage.afterBurst (sampleMove s.refs q) s.seq.burst).afterDoor
    (sampleDoorChange s.refs d) d (s.seq.doorRem + s.seq.interval)).summary (sampleMove s.refs q)
  exact h

theorem SampledSummary.requalified {s : State} {d : Door} {q : Quad} {code : BitVec 10} {mv : Nat} {x : Summary}
    (h : SampledSummary s d q code mv x) (qu : Quality) (n : Nat) :
    SampledSummary s d q code mv { x with quality := qu, itemsLost := n } :=
  ⟨h.duration, h.doorOpened, h.doorOpenSec, h.quarters, h.net, h.uncertain, h.lastTemp, h.backupLow, h.matchKey, h.flushed⟩

/-! ### The flush -/

/-- The burst after a sample above the floor. -/
def State.sampledBurst : Option Nat :=
  burstAfter (if stillMove (sampleMove s.refs q) then none else s.seq.burst) (sampleMove s.refs q)

/-- The state with a sample's log `lg`, summary `sm` and burst `b`, its pace and quiet count `p`, and the flush's part of the
sequencer. -/
def State.sampledAs (lg : List LogItem) (sm : Summary) (b : Option Nat) (p : Nat × Nat) (st : SeqState) (cp : Option Summary)
    (bf : Bool) : State := { s with
  refs := ⟨some d, some q, if codeValid code then some (temperatureOf s.settings.temp code) else s.refs.temp⟩
  outage := { s.outage with log := lg, summary := sm }
  seq := { s.seq with
    burst := b, state := st, flushCopy := cp, backupFlush := bf
    doorRem := if d = .opened then (s.seq.doorRem + s.seq.interval) % 1000 else s.seq.doorRem
    sampleFault := !codeValid code, lastVbk := some mv, pace := p.1, quiet := p.2, toSample := s.seq.base * 1000 / 2 ^ p.1 } }

/-- A sample moves the outage record's log and summary alone. -/
theorem sampledOutage_eta : s.sampledOutage d q code mv =
    { s.outage with log := (s.sampledOutage d q code mv).log, summary := (s.sampledOutage d q code mv).summary } := by
  have hbase : s.outage.Recorded s.outage := rfl
  exact ((((hbase.took _).resummarized _ |>.took _).resummarized _ |>.took _).resummarized _ |>.took _).resummarized _ |>.took _

theorem sampled_as : s.sampled d q code mv = s.sampledAs d q code mv (s.sampledOutage d q code mv).log
    (s.sampledOutage d q code mv).summary (s.sampledBurst q) (s.sampledPace d q code mv) s.seq.state s.seq.flushCopy
    s.seq.backupFlush := by
  unfold State.sampledAs
  rw [← sampledOutage_eta]
  rfl

/-- The outage record in which the burst `b` has closed into the log `lg`. -/
def Outage.burstTaken (o : Outage) (lg : List LogItem) (sm : Summary) (b : Option Nat) : Outage :=
  ({ o with log := lg, summary := sm } : Outage).took (burstItem b)

theorem enterFlushing_as (lg : List LogItem) (sm : Summary) (b : Option Nat) (p : Nat × Nat) (st : SeqState)
    (cp : Option Summary) (bf : Bool) : ∃ n, n = (s.outage.burstTaken lg sm b).summary.itemsLost
      ∧ enterFlushing (s.sampledAs d q code mv lg sm b p st cp bf) = s.sampledAs d q code mv (s.outage.burstTaken lg sm b).log
        { sm with quality := if sm.quality = .known then .lowerBound else sm.quality, itemsLost := n } none p .flushing
        (some { sm with quality := if sm.quality = .known then .lowerBound else sm.quality, itemsLost := n, flushed := true })
        (!s.mainRunning) := by
  refine ⟨_, rfl, ?_⟩
  rw [enterFlushing_eq]
  rfl

/-- What a sample leaves: the parts, and below the floor the flush with the burst's item. -/
theorem takeSample_left : ∃ lg sm b p st cp bf, takeSample d q code mv s =
      s.sampledAs d q code (measuredMv mv) lg sm b p st cp bf
    ∧ SampledSummary s d q code (measuredMv mv) sm
    ∧ p = settledPace s.seq.pace s.seq.quiet (s.sampleMoved d q) (sampleTempChange code s) sm.backupLow
    ∧ (measuredMv mv < s.seq.floor → b = none ∧ st = .flushing ∧ cp = some { sm with flushed := true }
      ∧ sm.quality = (if s.outage.summary.quality = .known then .lowerBound else s.outage.summary.quality) ∧ bf = !s.mainRunning)
    ∧ (s.seq.floor ≤ measuredMv mv → b = s.sampledBurst q ∧ st = s.seq.state
      ∧ cp = s.seq.flushCopy ∧ sm.quality = s.outage.summary.quality ∧ bf = s.seq.backupFlush)
    ∧ (s.outage.log.length ≤ 18 → sm.itemsLost = s.outage.summary.itemsLost
      ∧ lg = s.outage.log ++ s.sampleItems d q code (measuredMv mv)
        ++ if measuredMv mv < s.seq.floor then (burstItem (s.sampledBurst q)).logged s.outage.summary.duration else []) := by
  have hsum := sampledOutage_summary s d q code (measuredMv mv)
  have hq := sampledOutage_quality s d q code (measuredMv mv)
  rw [takeSample_eq]
  by_cases hf : measuredMv mv < s.seq.floor
  · obtain ⟨n, hn, he⟩ := enterFlushing_as s d q code (measuredMv mv) (s.sampledOutage d q code (measuredMv mv)).log
      (s.sampledOutage d q code (measuredMv mv)).summary (s.sampledBurst q) (s.sampledPace d q code (measuredMv mv)) s.seq.state
      s.seq.flushCopy s.seq.backupFlush
    rw [if_pos hf, sampled_as, he]
    refine ⟨_, _, _, _, _, _, _, rfl, hsum.requalified _ n, rfl, fun _ => ⟨rfl, rfl, rfl, by rw [hq], rfl⟩,
      fun h => absurd hf (Nat.not_lt.mpr h), fun h => ?_⟩
    have hl := sampleItems_length (s := s) (d := d) (q := q) (code := code) (mv := measuredMv mv)
    obtain ⟨h0, ht, h2⟩ := sampledOutage_holds (d := d) (q := q) (code := code) (mv := measuredMv mv) h
    obtain ⟨h1, -, h3⟩ := Outage.Holds.took (o := { s.outage with
        log := (s.sampledOutage d q code (measuredMv mv)).log, summary := (s.sampledOutage d q code (measuredMv mv)).summary })
      ⟨h0, ht, h2⟩ (burstItem (s.sampledBurst q)) (by rw [List.length_append]; omega)
    rw [if_pos hf]
    exact ⟨hn.trans h3, h1⟩
  · rw [if_neg hf, sampled_as]
    refine ⟨_, _, _, _, _, _, _, rfl, hsum, rfl, fun h => absurd h hf, fun _ => ⟨rfl, rfl, rfl, hq, rfl⟩, fun h => ?_⟩
    obtain ⟨h1, -, h3⟩ := sampledOutage_holds (d := d) (q := q) (code := code) (mv := measuredMv mv) h
    rw [if_neg hf, List.append_nil]
    exact ⟨h3, h1⟩

end Sample

end Sys2Proof.Machine
end

section
/-! PROOFS. A sample of the outage watch, in the words of its statement (spec section 6.3; O59). -/

set_option Elab.async false

namespace Sys2Proof.Machine

/-! ### Readings against their references -/

theorem quadMove_same_iff (a b : Quad) : quadMove a b = .same ↔ a = b := by
  cases a <;> cases b <;> decide

section Readings

variable (r : Refs) (q : Quad)

theorem sampleMove_none {r : Refs} (h : r.quad = none) : sampleMove r q = none := by
  unfold sampleMove
  rw [h]
  rfl

theorem sampleMove_some {r : Refs} {a : Quad} (h : r.quad = some a) : sampleMove r q = some (quadMove a q) := by
  unfold sampleMove
  rw [h]
  rfl

/-- A reading that is neither missing nor a step, and differs from its reference, is an opposite one. -/
theorem still_moved_iff : stillMove (sampleMove r q) = true ∧ r.quad ≠ some q ↔ sampleMove r q = some .opposite := by
  cases hq : r.quad with
  | none =>
    rw [sampleMove_none q hq]
    exact ⟨fun h => (nomatch h.1), nofun⟩
  | some a =>
    rw [sampleMove_some q hq, Ne, Option.some.injEq, Option.some.injEq, ← quadMove_same_iff]
    cases quadMove a q with
    | same => exact ⟨fun h => absurd rfl h.2, nofun⟩
    | step => exact ⟨fun h => (nomatch h.1), nofun⟩
    | opposite => exact ⟨fun _ => rfl, fun _ => ⟨rfl, nofun⟩⟩

end Readings

theorem codeValid_iff (code : BitVec 10) : codeValid code = true ↔ 16 ≤ code.toNat ∧ code.toNat ≤ 1007 := by
  simp only [codeValid, Bool.and_eq_true, decide_eq_true_eq]

/-- The pace and the quiet count, case by case. -/
theorem settledPace_eq (pace quiet : Nat) (moved warmed low : Bool) : settledPace pace quiet moved warmed low =
    (if low then min 1 (if moved then 3 else if warmed then min 3 (pace + 1) else if quiet = 3 then pace - 1 else pace)
      else if moved then 3 else if warmed then min 3 (pace + 1) else if quiet = 3 then pace - 1 else pace,
    if moved = true ∨ warmed = true ∨ quiet = 3 then 0 else quiet + 1) := by
  unfold settledPace
  cases moved with
  | true => rfl
  | false =>
    cases warmed with
    | true => rfl
    | false =>
      by_cases hq : quiet = 3
      · simp [hq]
      · simp [hq]

/-! ### The items -/

theorem OfferedItem.logged_ite (c : Prop) [Decidable c] (k : ItemKind) (a : Option Nat) (t : Nat) :
    (if c then some (k, a) else none : OfferedItem).logged t = if c then [⟨k, t, a⟩] else [] := by
  split <;> rfl

theorem burstItem_logged (b : Option Nat) (t : Nat) :
    (burstItem b).logged t = (b.map fun n => (⟨.drumMove, t, some n⟩ : LogItem)).toList := by
  cases b <;> rfl

/-- The door opened where it was closed. -/
theorem door_opens (r : Refs) (isOpen : Bool) :
    (sampleDoorChange r (Door.ofLevel isOpen) && Door.ofLevel isOpen == .opened) = (r.door == some .closed && isOpen) := by
  unfold sampleDoorChange
  rcases r.door with _ | (_ | _) <;> cases isOpen <;> rfl

theorem sampleDoorChange_iff (r : Refs) (d : Door) : sampleDoorChange r d = true ↔ r.door.isSome = true ∧ r.door ≠ some d := by
  simp only [sampleDoorChange, Bool.and_eq_true, bne_iff_ne]

/-- The temperature changes enough to warm the pace. -/
theorem sampleTempChange_eq (code : BitVec 10) (s : State) : sampleTempChange code s =
    (decide (16 ≤ code.toNat ∧ code.toNat ≤ 1007) && tempChange s.refs.temp (temperatureOf s.settings.temp code)) := by
  unfold sampleTempChange codeValid
  rw [Bool.decide_and]

/-- A reading is a step from its reference. -/
def stepMove : Option QuadMove → Bool
  | some (.step _) => true
  | some .same | some .opposite | none => false

theorem sampledBurst_eq (s : State) (q : Quad) : s.sampledBurst q = if stillMove (sampleMove s.refs q) = true then none
    else if stepMove (sampleMove s.refs q) then some (min 65535 (s.seq.burst.getD 0 + 1)) else s.seq.burst := by
  unfold State.sampledBurst
  rcases sampleMove s.refs q with _ | _ | _ | _ <;> rfl

/-- The items of a sample, as they stand in the log. -/
theorem sampleItems_eq (s : State) (d : Door) (q : Quad) (code : BitVec 10) (mv : Nat) :
    s.sampleItems d q code mv =
      (if stillMove (sampleMove s.refs q) then
        (s.seq.burst.map fun n => (⟨.drumMove, s.outage.summary.duration, some n⟩ : LogItem)).toList else [])
      ++ (if s.refs.door.isSome ∧ s.refs.door ≠ some d then
          [⟨if d = .opened then .doorOpen else .doorClose, s.outage.summary.duration, none⟩] else [])
      ++ (if stillMove (sampleMove s.refs q) = true ∧ s.refs.quad ≠ some q then
          [⟨.motionUncertain, s.outage.summary.duration, none⟩] else [])
      ++ (if (code.toNat < 16 ∨ 1007 < code.toNat) ∧ s.seq.sampleFault = false then
          [⟨.sensorFault, s.outage.summary.duration, none⟩] else [])
      ++ (if mv < s.seq.low ∧ s.outage.summary.backupLow = false then
          [⟨.backupLow, s.outage.summary.duration, none⟩] else []) := by
  have hfault : (!codeValid code && !s.seq.sampleFault) = true ↔
      (code.toNat < 16 ∨ 1007 < code.toNat) ∧ s.seq.sampleFault = false := by
    rw [Bool.and_eq_true, Bool.not_eq_true', Bool.not_eq_true', ← Bool.not_eq_true, codeValid_iff]
    exact and_congr_left fun _ => by omega
  have hlow : (decide (mv < s.seq.low) && !s.outage.summary.backupLow) = true ↔
      mv < s.seq.low ∧ s.outage.summary.backupLow = false := by
    rw [Bool.and_eq_true, Bool.not_eq_true', decide_eq_true_eq]
  have hburst : (if stillMove (sampleMove s.refs q) then burstItem s.seq.burst else none : OfferedItem).logged
      s.outage.summary.duration = if stillMove (sampleMove s.refs q) then
        (s.seq.burst.map fun n => (⟨.drumMove, s.outage.summary.duration, some n⟩ : LogItem)).toList else [] := by
    split
    · exact burstItem_logged _ _
    · rfl
  unfold State.sampleItems
  simp only [hburst, OfferedItem.logged_ite, sampleDoorChange_iff, still_moved_iff, hfault, hlow]

/-- Settles O59: `takeSample_left`, read field by field. -/
theorem samplesWatchTheOutage : Obligations.SamplesWatchTheOutage := by
  intro isOpen q code mv s hv hw
  have hexec : exec (.sample isOpen q code mv) s = .next (serve (takeSample (Door.ofLevel isOpen) q code mv s)) :=
    congrArg _ (if_pos ⟨hv, hw⟩)
  have hlevel : Door.ofLevel isOpen = if isOpen then .opened else .closed := by cases isOpen <;> rfl
  have hopen : Door.ofLevel isOpen = .opened ↔ isOpen = true := by cases isOpen <;> decide
  obtain ⟨lg, sm, b, p, st, cp, bf, ht, hsum, hp, hflush, hwatch, hlog⟩ := takeSample_left s (Door.ofLevel isOpen) q code mv
  generalize hd : Door.ofLevel isOpen = d at *
  refine ⟨_, d, measuredMv mv, s.sampleMoved d q, hexec, hlevel, rfl, ?_⟩
  rw [ht]
  refine ⟨?_, rfl, rfl, ?_, hsum.doorOpened.trans ?_, hsum.doorOpenSec.trans ?_, ?_, hsum.quarters.trans ?_, ?_,
    hsum.backupLow, rfl, hsum.net.trans ?_, hsum.lastTemp.trans ?_, rfl, fun warmed hwarm => ?_, fun step still hstep hstill => ?_,
    fun hm => ?_, fun hf => ?_, fun hf => ?_, hsum.duration, hsum.matchKey, hsum.flushed, fun hl => (hlog hl).1, ⟨_, _, rfl⟩,
    rfl, rfl, rfl, rfl, rfl, rfl, rfl, rfl, rfl, rfl, rfl, rfl, rfl, rfl, rfl, rfl, rfl, rfl, rfl, rfl, rfl, rfl, rfl, rfl⟩
  · unfold State.sampleMoved sampleDoorChange
    congr 1
    cases hq : s.refs.quad with
    | none => rw [sampleMove_none q hq]; rfl
    | some a =>
      rw [sampleMove_some q hq]
      dsimp only [Option.map_some, Option.getD_some]
      cases quadMove a q <;> rfl
  · simp only [State.sampledAs, codeValid_iff]
  · rw [← hd, door_opens]
  · simp only [hopen]
    rfl
  · simp only [State.sampledAs, hopen]
    rfl
  · cases hq : s.refs.quad with
    | none => rw [sampleMove_none q hq]; rfl
    | some a =>
      rw [sampleMove_some q hq]
      dsimp only
      cases quadMove a q <;> rfl
  · change sm.uncertain = true ↔ _
    rw [hsum.uncertain]
    cases hq : s.refs.quad with
    | none =>
      rw [sampleMove_none q hq]
      exact (or_iff_left (by rintro ⟨_, h, -⟩; exact nomatch h)).symm
    | some a =>
      simp only [sampleMove_some q hq, Option.some.injEq, exists_eq_left']
      cases quadMove a q with
      | same => exact (or_iff_left nofun).symm
      | step => exact (or_iff_left nofun).symm
      | opposite => exact iff_of_true rfl (.inr rfl)
  · cases hq : s.refs.quad with
    | none => rw [sampleMove_none q hq]; rfl
    | some a =>
      rw [sampleMove_some q hq]
      dsimp only
      rcases quadMove a q with _ | (_ | _) | _ <;> rfl
  · simp only [codeValid_iff]
  · have hwarm' : warmed = sampleTempChange code s := by
      rw [hwarm, sampleTempChange_eq]
      cases s.refs.temp <;> rfl
    rw [settledPace_eq, ← hwarm'] at hp
    subst hp
    refine ⟨rfl, fun pace hpace => ⟨?_, rfl⟩⟩
    rw [hpace]
    rfl
  · have hstep' : step = stepMove (sampleMove s.refs q) := by
      rw [hstep]
      cases hq : s.refs.quad with
      | none => rw [sampleMove_none q hq]; rfl
      | some a =>
        rw [sampleMove_some q hq]
        dsimp only
        rcases quadMove a q with _ | (_ | _) | _ <;> rfl
    have hstill' : still = stillMove (sampleMove s.refs q) := by
      rw [hstill]
      cases hq : s.refs.quad with
      | none => rw [sampleMove_none q hq]; rfl
      | some a =>
        rw [sampleMove_some q hq]
        dsimp only
        rcases quadMove a q with _ | (_ | _) | _ <;> rfl
    have hburst := sampledBurst_eq s q
    rw [← hstep', ← hstill'] at hburst
    refine ⟨?_, fun hl item hitem => ?_⟩
    · change b = _
      by_cases hf : measuredMv mv < s.seq.floor
      · rw [(hflush hf).1]
        exact (if_pos (.inl hf)).symm
      · rw [(hwatch (Nat.not_lt.mp hf)).1, hburst]
        simp only [show (measuredMv mv < s.seq.floor) = False from eq_false hf, false_or]
    · have hlast : (if measuredMv mv < s.seq.floor then
          ((s.sampledBurst q).map fun n => (⟨.drumMove, s.outage.summary.duration, some n⟩ : LogItem)).toList else []) =
          if measuredMv mv < s.seq.floor ∧ still = false then
            ((if step then some (min 65535 (s.seq.burst.getD 0 + 1)) else s.seq.burst).map
              fun n => (⟨.drumMove, s.outage.summary.duration, some n⟩ : LogItem)).toList else [] := by
        rw [hburst]
        cases still with
        | true => simp only [if_true, Option.map_none, Option.toList_none, ite_self, Bool.true_eq_false, and_false, if_false]
        | false => simp only [Bool.false_eq_true, if_false, and_true]
      change lg = _
      rw [(hlog hl).2, sampleItems_eq, burstItem_logged, hlast, ← hstill']
      simp only [hitem, ← hopen, List.append_assoc]
  · rw [settledPace_eq, hm] at hp
    subst hp
    have hquiet : (if true = true ∨ sampleTempChange code s = true ∨ s.seq.quiet = 3 then 0 else s.seq.quiet + 1) = 0 :=
      if_pos (.inl rfl)
    exact ⟨rfl, hquiet⟩
  · obtain ⟨-, hst, hcp, hqu, hbf⟩ := hflush hf
    exact ⟨hst, hcp, hqu, hbf⟩
  · obtain ⟨-, hst, hcp, hqu, hbf⟩ := hwatch hf
    exact ⟨hst.trans hw, hqu, hcp, hbf⟩

end Sys2Proof.Machine
end

section
/-! PROOFS. The heat permit (spec section 8.9; O45). -/

set_option Elab.async false

namespace Sys2Proof.Machine

section Permit

variable {s : State}

theorem hpm_iff : s.hpm = true ↔ s.mainRunning = true ∧ s.mains.mode = .run ∧ s.handover.state = .closed ∧ s.lpr.phase = .heat
    ∧ s.lpr.runReq = .run ∧ s.sensing.door = some .closed ∧ s.sensing.fault = false ∧ s.sensing.lastTemp ≠ none
    ∧ s.handover.overLimit = false := by
  simp only [State.hpm, State.runClosed, Bool.and_eq_true, beq_iff_eq, Bool.not_eq_true', Option.isSome_iff_ne_none, and_assoc]

/-! ### What holds the permit low -/

theorem hpm_mode (h : s.mains.mode ≠ .run) : s.hpm = false :=
  Bool.eq_false_iff.mpr fun hp => h (hpm_iff.mp hp).2.1

theorem hpm_phase (h : s.lpr.phase ≠ .heat) : s.hpm = false := by
  refine Bool.eq_false_iff.mpr fun hp => ?_
  obtain ⟨-, -, -, hph, -⟩ := hpm_iff.mp hp
  exact h hph

theorem hpm_runReq (h : s.lpr.runReq ≠ .run) : s.hpm = false := by
  refine Bool.eq_false_iff.mpr fun hp => ?_
  obtain ⟨-, -, -, -, hr, -⟩ := hpm_iff.mp hp
  exact h hr

theorem hpm_fault (h : s.sensing.fault = true) : s.hpm = false := by
  refine Bool.eq_false_iff.mpr fun hp => ?_
  obtain ⟨-, -, -, -, -, -, hf, -⟩ := hpm_iff.mp hp
  exact absurd (h.symm.trans hf) nofun

theorem hpm_overLimit (h : s.handover.overLimit = true) : s.hpm = false := by
  refine Bool.eq_false_iff.mpr fun hp => ?_
  obtain ⟨-, -, -, -, -, -, -, -, ho⟩ := hpm_iff.mp hp
  exact absurd (h.symm.trans ho) nofun

/-! ### What does not move it -/

theorem hpm_serve (s : State) : (serve s).hpm = s.hpm := by
  obtain ⟨_, _, h⟩ := serve_eq s
  rw [h]
  rfl

theorem hpm_withAnswer (s : State) (p : Port) (a : Answer) : (s.withAnswer p a).hpm = s.hpm := by
  cases p <;> rfl

theorem hpm_requestPhase (s : State) : (requestPhase s).hpm = s.hpm := by
  obtain ⟨q, h, -⟩ := requestPhase_cases s
  rw [h]
  rfl

/-! ### Phases and run requests -/

/-- A change of the phase to one other than HEAT leaves no HEAT: the fresh start may end in DONE. -/
theorem changePhase_ne_heat {ph : Phase} (h : ph ≠ .heat) : (changePhase ph s).lpr.phase ≠ .heat := by
  have hreq (u : State) (hu : u.lpr.phase ≠ .heat) : (requestPhase u).lpr.phase ≠ .heat := by
    obtain ⟨q, he, -⟩ := requestPhase_cases u
    rw [he]
    exact hu
  have hdone (r : EndReason) (u : State) : (endOwn r u).lpr.phase ≠ .heat := by
    rw [(endOwn_left r u).2]
    nofun
  have hfresh (u : State) (hu : u.lpr.phase ≠ .heat) : (freshStart u).lpr.phase ≠ .heat := by
    unfold freshStart enterRest windowTest
    dsimp only
    split
    · exact hdone _ _
    · split
      · exact hdone _ _
      · exact hu
  have hput (u : State) : (if u.lpr.phase = .anticrease then endByChange .phase (putPhase ph 0 u) else putPhase ph 0 u).lpr.phase
      ≠ .heat := by
    unfold endByChange
    split
    · split <;> exact h
    · exact h
  unfold changePhase
  split
  · obtain ⟨_, _, _, _, _, he, -⟩ := changeToDone_changed s .phase
    rw [he]
    nofun
  · refine hreq _ ?_
    split
    · exact hfresh _ (hput s)
    · exact hput s

/-- A write of PAUSED or STOPPED: it stands, or the scheduler that it cuts ends in DONE. -/
theorem hpm_storeRunReq {r : RunReq} (h : r ≠ .run) : (storeRunReq r s).hpm = false := by
  by_cases hs : s.lpr.runReq = r
  · rw [storeRunReq_same hs]
    exact hpm_runReq (by rw [hs]; exact h)
  · cases ht : s.sched.state.tmb with
    | false =>
      rw [storeRunReq_plain hs (.inr ht)]
      exact hpm_runReq h
    | true =>
      rw [storeRunReq_rests hs h ht, hpm_serve]
      unfold enterRest windowTest
      split
      · exact hpm_phase (by rw [(endOwn_left _ _).2]; nofun)
      · exact hpm_runReq h

/-! ### Sensing -/

theorem hpm_doorOpens (h : s.sensing.door ≠ none) : (acceptDoor .opened s).hpm = false := by
  by_cases ho : s.sensing.door = some .opened
  · rw [acceptDoor_same ho]
    exact hpm_opened ho
  · rw [acceptDoor_change h ho, doorChangeTo_opened]
    have hby := ((DoorBystanders.of_steady (openingCounted_steady s)).trans (.of_record _ .opened)).trans
      (.of_steady (raiseBoth_steady _ .doorChanged))
    exact hpm_opened hby.door

theorem Heard.fault {t : State} (h : Heard s t) : t.sensing.fault = s.sensing.fault := by
  obtain ⟨_, _, _, _, _, _, _, _, _, _, _, _, _, _, _, _, _, rfl, -⟩ := h
  rfl

theorem faultEntry_fault (s : State) : (faultEntry s).sensing.fault = true := by
  cases hl : s.logger with
  | true =>
    obtain ⟨o, -, he⟩ := faultEntry_logged hl
    rw [he, (newLogItem_heard _ .sensorFault).fault]
  | false => rw [faultEntry_unlogged hl]

theorem hpm_faulted {code : BitVec 10} (h : code.toNat < 16 ∨ 1007 < code.toNat) : (conversion code s).hpm = false := by
  have hv : codeValid code = false := Bool.eq_false_iff.mpr (codeValid_not h)
  cases hf : s.sensing.fault with
  | true =>
    rw [conversion_faulted hv hf]
    exact hpm_fault hf
  | false =>
    rw [conversion_faults hv hf]
    exact hpm_fault (faultEntry_fault _)

theorem overLimitAfter_above {b : Bool} {t l : Int} (h : l ≤ t) : overLimitAfter b t l = true := by
  unfold overLimitAfter
  split
  · exact decide_eq_true (by omega)
  · exact decide_eq_true h

end Permit

/-- Settles O45: one condition of `hpm_iff` fails after each of the events, and a write of HEAT completes them. -/
theorem heatPermitFollowsItsConditions : Obligations.HeatPermitFollowsItsConditions := by
  intro s
  refine ⟨hpm_iff, fun hr hm => ⟨serve (loss s), congrArg _ (if_pos ⟨hr, hm⟩), ?_⟩,
    fun ph ht hb hm hph hw => ⟨_, exec_writePhase ht hb hm hw, ?_⟩,
    fun r ht hb hm h => ⟨_, exec_writeRunRequest r ht hb hm, ?_⟩,
    fun hr hd => ⟨serve (acceptDoor .opened s), congrArg _ (if_pos hr), ?_⟩,
    fun code hr hc => ⟨serve (conversion code s), congrArg _ (if_pos hr), ?_⟩,
    fun code hr h1 h2 hl => ⟨serve (conversion code s), congrArg _ (if_pos hr), ?_⟩,
    fun ht hb hrun hreq hph hd hf hlt ho => ?_, fun p data ht => ?_⟩
  · obtain ⟨_, _, _, _, he, -⟩ := loss_left s
    rw [hpm_serve, he]
    exact hpm_mode nofun
  · rw [hpm_withAnswer, hpm_serve]
    exact hpm_phase (changePhase_ne_heat hph)
  · rw [hpm_withAnswer]
    exact hpm_storeRunReq h
  · rw [hpm_serve]
    exact hpm_doorOpens hd
  · rw [hpm_serve]
    exact hpm_faulted hc
  · rw [hpm_serve, conversion_valid (codeValid_of h1 h2)]
    exact hpm_overLimit (overLimitAfter_above hl)
  · have hw : driveMayWritePhase s.lpr.phase .heat s.lpr.runReq := by
      refine .inr ⟨?_, hreq⟩
      rcases hph with h | h <;> rw [h] <;> decide
    have hne : s.lpr.phase ≠ .anticrease := by
      rcases hph with h | h <;> rw [h] <;> nofun
    refine ⟨_, exec_writePhase (ph := .heat) ht hb (mayWrite_of_runClosed .drive hrun) hw, ?_⟩
    rw [hpm_withAnswer, hpm_serve, changePhase_plain (.inl rfl) hne, hpm_requestPhase, hpm_iff]
    simp only [State.runClosed, Bool.and_eq_true, beq_iff_eq] at hrun
    exact ⟨ht.1, hrun.1, hrun.2, rfl, hreq, hd, hf, hlt, ho⟩
  · refine readGives_of_object (by decide) ht ?_ nofun
    refine (readStatus_row s 15).trans ?_
    cases s.hpm <;> rfl

end Sys2Proof.Machine
end

section
/-! PROOFS. The end of a scan (spec sections 1.9, 3.4, 6.8, 8.2; O39). -/

set_option Elab.async false

namespace Sys2Proof.Machine

/-! ### What the scan finds in the journal -/

section Journal

variable {j : Vector Slot 16}

theorem headed_iff (sl : Slot) : sl.headed ↔ sl.validHeader = true := by
  simp only [Slot.headed, Slot.validHeader, Bool.or_eq_true, beq_iff_eq]

theorem whole_iff (sl : Slot) : sl.whole ↔ (sl.state == .complete) = true := beq_iff_eq.symm

theorem newestWith_congr {f g : Slot → Prop} (h : ∀ sl, f sl ↔ g sl) {i : Fin 16} (hi : newestWith f j i) : newestWith g j i :=
  ⟨(h _).mp hi.1, fun k hk hg => hi.2 k hk ((h _).mpr hg)⟩

theorem newestSlot_headed {i : Fin 16} (h : newestWith Slot.headed j i) : newestSlot j = some i :=
  latestSlot_eq_some _ j i (newestWith_congr headed_iff h)

theorem newestSlot_none (h : ∀ i : Fin 16, ¬j[i].headed) : newestSlot j = none :=
  latestSlot_eq_none _ j fun i => mt (headed_iff _).mpr (h i)

theorem newestComplete_whole {i : Fin 16} (h : newestWith Slot.whole j i) : newestComplete j = some ⟨j[i].seqNo, j[i].body⟩ := by
  have hl : latestSlot (fun sl => sl.state == .complete) j = some i := latestSlot_eq_some _ j i (newestWith_congr whole_iff h)
  unfold newestComplete
  rw [hl]
  rfl

theorem newestComplete_none (h : ∀ i : Fin 16, ¬j[i].whole) : newestComplete j = none := by
  have hl : latestSlot (fun sl => sl.state == .complete) j = none := latestSlot_eq_none _ j fun i => mt (whole_iff _).mpr (h i)
  unfold newestComplete
  rw [hl]
  rfl

end Journal

/-! ### The scan's numbers, the chain's key and the flushed copy -/

section Scan

variable (s : State)

theorem scanRead_eq : scanRead s = { s with
    engine := scanEngine s.journal s.engine
    panelAlerts := if 1 ≤ tornCount s.journal then s.panelAlerts.add .tornFound else s.panelAlerts
    driveAlerts := if 1 ≤ tornCount s.journal then s.driveAlerts.add .tornFound else s.driveAlerts } := by
  by_cases h : 1 ≤ tornCount s.journal
  · simp only [if_pos h]
    exact if_pos h
  · simp only [if_neg h]
    exact if_neg h

theorem keyAtScan_eq (c : Option Word) : keyAtScan c s = { s with
    outage := { s.outage with
      keyFromScan := s.outage.keyFromScan && !s.outage.chainOpen
      summary := { s.outage.summary with
        matchKey := if s.outage.chainOpen = true ∧ s.outage.keyFromScan = true then c else s.outage.summary.matchKey } } } := by
  unfold keyAtScan
  simp only [Bool.and_eq_true]
  by_cases h : s.outage.chainOpen = true ∧ s.outage.keyFromScan = true
  · rw [if_pos h, if_pos h, h.1, h.2]
    rfl
  · have hk : (s.outage.keyFromScan && !s.outage.chainOpen) = s.outage.keyFromScan := by
      cases hk : s.outage.keyFromScan with
      | false => rfl
      | true =>
        rw [Bool.eq_false_iff.mpr fun hc => h ⟨hc, hk⟩]
        rfl
    rw [if_neg h, if_neg h, hk]

theorem adoption_eq (c : Option Word) : adoption c s = { s with
    outage := { s.outage with
      summary := if s.adopts c then s.outage.summary.adopt s.flushedCopy else s.outage.summary } } := by
  unfold adoption
  split <;> rfl

theorem adopts_iff (c : Option Word) : s.adopts c = true ↔ s.outage.summary.quality = .unknown ∧ s.flushedCopy.flushed = true
    ∧ s.flushedCopy.quality = .lowerBound ∧ s.flushedCopy.matchKey.isSome = true ∧ s.flushedCopy.matchKey = c := by
  simp only [State.adopts, Bool.and_eq_true, beq_iff_eq, and_assoc]

/-- The current number that the scan finds. -/
def State.scanCurrent : Option Word := (scanEngine s.journal s.engine).curSeq

/-- The scan's result as an evaluation keeps it. -/
def State.scanKept : Kept := ⟨newestComplete s.journal, s.scanCurrent, tornCount s.journal⟩

/-- The summary that a chain has at the end of a scan, before an adoption. -/
def State.keyedSummary : Summary := { s.outage.summary with
  matchKey := if s.outage.chainOpen = true ∧ s.outage.keyFromScan = true then s.scanCurrent else s.outage.summary.matchKey }

/-- The state with the scan's numbers and the summary `sm`. -/
def State.scannedAs (sm : Summary) : State := { s with
  engine := scanEngine s.journal s.engine
  panelAlerts := if 1 ≤ tornCount s.journal then s.panelAlerts.add .tornFound else s.panelAlerts
  driveAlerts := if 1 ≤ tornCount s.journal then s.driveAlerts.add .tornFound else s.driveAlerts
  outage := { s.outage with keyFromScan := s.outage.keyFromScan && !s.outage.chainOpen, summary := sm } }

theorem keyAtScan_scanned : keyAtScan s.scanCurrent (scanRead s) = s.scannedAs s.keyedSummary := by
  rw [keyAtScan_eq, scanRead_eq]
  rfl

/-- The adoption sees the chain's summary as keyed. -/
theorem adoption_scanned : adoption s.scanCurrent (s.scannedAs s.keyedSummary) = s.scannedAs
    (if s.keyedSummary.quality = .unknown ∧ s.flushedCopy.flushed = true ∧ s.flushedCopy.quality = .lowerBound
      ∧ s.flushedCopy.matchKey.isSome = true ∧ s.flushedCopy.matchKey = s.scanCurrent then s.keyedSummary.adopt s.flushedCopy
      else s.keyedSummary) := by
  rw [adoption_eq]
  simp only [adopts_iff]
  rfl

end Scan

/-! ### The counter of free values -/

/-- The state with another counter of free values. -/
def State.counted (s : State) (m : Nat) : State := { s with freeCount := m }

theorem request_counted (o : Origin) (s : State) (m : Nat) : request o (s.counted m) = (request o s).counted m := by
  refine Eq.trans ?_ (apply_ite (State.counted · m) _ _ _).symm
  rfl

theorem notifyWrap_counted (s : State) (m : Nat) : notifyWrap (s.counted m) = (notifyWrap s).counted m := by
  have h := request_counted .tally (raiseBoth .tallyTarget { s with freeze.notify := true }) m
  refine Eq.trans ?_ (apply_ite (State.counted · m) _ _ _).symm
  rw [← h]
  rfl

/-- The counter does not bear on an occurrence. -/
theorem deliver_counted (src : Source) (inc : Nat) (s : State) (m : Nat) :
    deliver src inc (s.counted m) = (deliver src inc s).counted m := by
  have h := notifyWrap_counted { s with tallies := deliverAll src inc s.tallies } m
  refine Eq.trans ?_ (apply_ite (State.counted · m) _ _ _).symm
  refine Eq.trans ?_ (congrArg _ (apply_ite (State.counted · m) _ _ _).symm)
  rw [← h]
  rfl

/-- Nor on a close, which leaves a cleared late mark as it is. -/
theorem chainClosed_counted {v u : State} (h : chainClosed v u) (hl : v.handover.late = false) (m : Nat) :
    chainClosed (v.counted m) { u with handover := { u.handover with late := false }, freeCount := m } := by
  obtain ⟨w, d, q, rfl, hd, hq, rfl⟩ := h
  refine ⟨_, d.counted m, q, rfl, ?_, hq, ?_⟩
  · rw [hd]
    refine (apply_ite (State.counted · m) _ _ _).trans ?_
    rw [← deliver_counted]
    rfl
  · have hlate : d.handover.late = false := by
      rw [hd]
      split
      · obtain ⟨_, _, _, _, _, ho⟩ := deliver_occurred .mainsDips 1 _
        rw [ho]
        exact hl
      · exact hl
    have hho : { d.handover with state := .closed, late := false } = { d.handover with state := HoState.closed } := by rw [← hlate]
    exact congrArg (fun ho => ({ d with
      engine := { d.engine with queue := q }, kept := none, handover := ho, freeCount := m } : State)) hho

theorem partWroteDone_counted {r : EndReason} {s u : State} (h : partWroteDone r s u) (m : Nat) :
    partWroteDone r (s.counted m) (u.counted m) := by
  unfold partWroteDone at h ⊢
  by_cases hd : s.lpr.phase = .done
  · rw [if_pos hd] at h
    rw [if_pos (by exact hd), h]
  · rw [if_neg hd] at h
    rw [if_neg (by exact hd)]
    obtain ⟨ts, sc, pa, da, q, rfl, hts, hsc, hq⟩ := h
    exact ⟨ts, sc, pa, da, q, rfl, hts, hsc, hq⟩

end Sys2Proof.Machine
end

section
/-! PROOFS. The end of a scan, with the build and the verdict (spec sections 1.9, 8.2; O39). -/

set_option Elab.async false

namespace Sys2Proof.Machine

section Build

variable (s : State)

/-- The build reads sensing, the references and the journal's entry alone. -/
theorem build_scannedAs (e : Option Entry) (sm : Summary) : build e (s.scannedAs sm) = { s.scannedAs sm with
    built := true, lpr := s.buildLpr e
    tallies := Vector.ofFn fun i => s.tallies[i].built ((e.map (·.body.tallies)).getD (Vector.replicate 6 0))[i]
    sched := { s.sched with
      nextDir := (e.map fun x => x.body.nextDir).getD .cw, pulsesDone := (e.map fun x => x.body.pulsesDone).getD 0
      missed := (e.map fun x => x.body.missed).getD 0 } } := rfl

theorem buildLpr_temp (e : Option Entry) : (s.buildLpr e).temp = s.sensing.lastTemp.getD (s.refs.temp.getD 0) := by
  have h : s.buildTemp = s.sensing.lastTemp.getD (s.refs.temp.getD 0) := by
    unfold State.buildTemp
    cases s.sensing.lastTemp <;> rfl
  rw [← h]
  cases e <;> rfl

theorem buildLpr_stale (e : Option Entry) : (s.buildLpr e).stale = (s.lpr.stale || s.sensing.lastTemp.isNone) := by
  cases e <;> rfl

theorem builtTallies_some (x : Entry) (k : Fin 6) :
    (Vector.ofFn fun i => s.tallies[i].built (((some x).map (·.body.tallies)).getD (Vector.replicate 6 0))[i] : Vector Tally 6)[k] =
      { s.tallies[k] with value := x.body.tallies[k], overflow := false } :=
  Vector.getElem_ofFn _

theorem builtTallies_none (k : Fin 6) :
    (Vector.ofFn fun i => s.tallies[i].built (((none : Option Entry).map (·.body.tallies)).getD (Vector.replicate 6 0))[i]
      : Vector Tally 6)[k] = { s.tallies[k] with value := 0, overflow := false } := by
  refine (Vector.getElem_ofFn _).trans ?_
  simp [Tally.built]

/-- The torn-skipped count, as R54 words it. -/
theorem tornCount_eq (j : Vector Slot 16) : tornCount j = min 15 ((List.finRange 16).countP fun k =>
    decide (j[k].state = .opened) && (match newestComplete j with
      | some x => decide (1 ≤ (j[k].seqNo - x.seqNo).toNat ∧ (j[k].seqNo - x.seqNo).toNat ≤ 32767)
      | none => true)) := by
  unfold tornCount
  dsimp only
  congr 2
  funext k
  have hs : (j[k].state == .opened) = decide (j[k].state = .opened) := by
    rw [Bool.eq_iff_iff, beq_iff_eq, decide_eq_true_eq]
  rw [hs]
  congr 1
  cases newestComplete j with
  | none => rfl
  | some x => exact (Bool.decide_and _ _).symm

end Build

/-! ### The verdict -/

/-- The evaluation's publication, on the build of `b`. -/
def published (k : Kept) (b : State) : State :=
  publish ((b.evalIn k false).plan 1) (build k.entry { b with kept := some k })

theorem published_handover (k : Kept) (b : State) : (published k b).handover = b.handover := rfl

/-- The act on the verdict, with the late mark cleared and the counter moved on. -/
def State.decided (x : State) (v : Verdict) (m : Nat) : State :=
  { actOnVerdict v x with handover := { (actOnVerdict v x).handover with late := false }, freeCount := m }

/-- An evaluation ends: publication, verdict, late mark and counter. -/
theorem evaluate_eq (k : Kept) (s : State) : evaluate k s =
    (published k (adoption k.newest s)).decided (((adoption k.newest s).evalIn k false).plan 1).verdict
      (countOpenClass k (adoption k.newest s).outage.summary.quality s.freeCount) := by
  have h (b : State) : endEvaluation k b = { actOnVerdict ((b.evalIn k false).plan 1).verdict (published k b) with
      handover.late := false } := rfl
  unfold evaluate State.decided
  dsimp only
  rw [h]

section Verdict

variable {x u : State} {m : Nat}

/-- Without a late item the verdict moves the hand-over as R132 says. -/
theorem verdict_acts (v : Verdict) (hl : x.handover.late = false)
    (hu : u = x.decided v m) :
    (v = .auto → u = { x.counted m with handover := { x.handover with state := .offeredAuto } })
    ∧ (v = .hold → u = { x.counted m with handover := { x.handover with state := .offeredHold } })
    ∧ (v = .none → chainClosed (x.counted m) u)
    ∧ (v = .ended → ∃ y, partWroteDone .phase (x.counted m) y ∧ chainClosed y u) := by
  have hlate (o : HoState) : { x.handover with state := o, late := false } = { x.handover with state := o } := by rw [← hl]
  refine ⟨?_, ?_, ?_, ?_⟩
  · rintro rfl
    have ha : actOnVerdict .auto x = { x with handover.state := .offeredAuto } := if_neg (by rw [hl]; exact nofun)
    rw [hu, State.decided, ha]
    exact congrArg (fun ho => ({ x.counted m with handover := ho } : State)) (hlate _)
  · rintro rfl
    rw [hu]
    exact congrArg (fun ho => ({ x.counted m with handover := ho } : State)) (hlate _)
  · rintro rfl
    rw [hu]
    exact chainClosed_counted (close_closed x) hl m
  · rintro rfl
    rw [hu]
    refine ⟨_, partWroteDone_counted (writeDone_wrote x .phase) m, chainClosed_counted (close_closed _) ?_ m⟩
    obtain ⟨_, _, _, _, _, _, _, _, _, _, _, he⟩ := writeDone_steady x .phase
    rw [he]
    exact hl

end Verdict

/-! ### The end of a scan -/

section Ends

variable {s : State}

theorem scanEnds_built (h : s.handover.state ≠ .evaluating) : scanEnds s =
    { build (newestComplete s.journal) (s.scannedAs s.keyedSummary) with freeze := { s.freeze with ret := false } } := by
  rw [scanEnds_eq, if_neg h]
  have hk := keyAtScan_scanned s
  unfold State.scanCurrent at hk
  rw [hk]
  rfl

theorem scanEnds_evaluated (h : s.handover.state = .evaluating) :
    scanEnds s = evaluate s.scanKept (s.scannedAs s.keyedSummary) := by
  rw [scanEnds_eq, if_pos h, ← keyAtScan_scanned]
  rfl

/-- The summary at the end of a scan: in an evaluation a matching flushed copy has been adopted. -/
def State.scanSummary (s : State) : Summary :=
  if s.handover.state = .evaluating ∧ s.keyedSummary.quality = .unknown ∧ s.flushedCopy.flushed = true
      ∧ s.flushedCopy.quality = .lowerBound ∧ s.flushedCopy.matchKey.isSome = true ∧ s.flushedCopy.matchKey = s.scanCurrent then
    s.keyedSummary.adopt s.flushedCopy
  else s.keyedSummary

theorem adoption_scanSummary (h : s.handover.state = .evaluating) :
    adoption s.scanCurrent (s.scannedAs s.keyedSummary) = s.scannedAs s.scanSummary := by
  rw [adoption_scanned]
  unfold State.scanSummary
  simp only [h, true_and]

end Ends

/-- Settles O39: the numbers from the journal's slots, the build from its newest COMPLETE entry, the verdict by `verdict_acts`. -/
theorem scansBuildTheRecord : Obligations.ScansBuildTheRecord := by
  intro s hr hw
  refine ⟨scanEnds s, build (newestComplete s.journal) (s.scannedAs s.scanSummary), s.scanCurrent,
    ((newestSlot s.journal).map (· + 1)).getD 0, tornCount s.journal,
    countOpenClass s.scanKept s.scanSummary.quality s.freeCount, newestComplete s.journal, s.scanSummary,
    s.buildLpr (newestComplete s.journal), _, congrArg _ (if_pos ⟨hr, hw⟩), fun i hi => ?_, fun h => ?_,
    fun i hi => newestComplete_whole hi, newestComplete_none, tornCount_eq _, fun x hx => ?_, fun hx => ?_, buildLpr_temp _ _,
    buildLpr_stale _ _, build_scannedAs _ _ _, fun sm0 hsm0 => ⟨fun h => ?_, fun h hno => ?_, fun h h1 h2 h3 h4 h5 => ?_⟩,
    fun h hl pl x hpl hx => ?_⟩
  · have hi' := newestSlot_headed hi
    unfold State.scanCurrent scanEngine
    rw [hi']
    exact ⟨rfl, rfl⟩
  · have h' := newestSlot_none h
    unfold State.scanCurrent scanEngine
    rw [h']
    exact ⟨rfl, rfl⟩
  · rw [hx]
    exact ⟨rfl, builtTallies_some s x⟩
  · rw [hx]
    exact ⟨rfl, builtTallies_none s⟩
  · have hsum : s.scanSummary = s.keyedSummary := if_neg fun hx => h hx.1
    rw [hsum, scanEnds_built h]
    exact ⟨hsm0.symm, rfl⟩
  · subst hsm0
    exact if_neg fun hx => hno hx.2
  · subst hsm0
    exact if_pos ⟨h, h1, h2, h3, h4, h5⟩
  · have hk : adoption s.scanKept.newest (s.scannedAs s.keyedSummary) = s.scannedAs s.scanSummary := adoption_scanSummary h
    have hu := scanEnds_evaluated h
    have hq : (s.scannedAs s.scanSummary).outage.summary.quality = s.scanSummary.quality := rfl
    have hc : (s.scannedAs s.keyedSummary).freeCount = s.freeCount := rfl
    rw [evaluate_eq, hk, hq, hc] at hu
    have hpl' : ((s.scannedAs s.scanSummary).evalIn s.scanKept false).plan 1 = pl := hpl.symm
    have hx' : (published s.scanKept (s.scannedAs s.scanSummary)).counted
        (countOpenClass s.scanKept s.scanSummary.quality s.freeCount) = x := by
      unfold published
      rw [hpl']
      exact hx.symm
    rw [hpl'] at hu
    have hho := published_handover s.scanKept (s.scannedAs s.scanSummary)
    have hsh : (s.scannedAs s.scanSummary).handover = s.handover := rfl
    rw [hsh] at hho
    generalize published s.scanKept (s.scannedAs s.scanSummary) = y at hu hx' hho
    have hl' : y.handover.late = false := by rw [hho]; exact hl
    have hacts := verdict_acts pl.verdict hl' hu
    rw [hho, hx'] at hacts
    exact hacts

end Sys2Proof.Machine
end
